-- ==== Sys2Proof/Word.lean ====
section
/-! DEFINITION. The word types of the IPTC-PIH regulator block: only what the spec treats as bits (00_scope.md R10,
R11; 10_state.md R32). Bit 0 is the least significant bit everywhere (R11). -/

namespace Sys2Proof

/-- A command word, a response word or a READ value: 32 bits moved whole (20_memory.md R72, 30_encoding.md R90). -/
abbrev Word := BitVec 32

/-- One byte of a host-side ASCII line (30_encoding.md R110). -/
abbrev Byte := BitVec 8

/-- A 12-bit unsigned quantity of the ADC domain: a sample, an average or a reference (00_scope.md R10). -/
abbrev Sample := BitVec 12

/-- A 9-bit duty code, 0..511 (00_scope.md R7, R10). -/
abbrev Duty := BitVec 9

/-- A 22-bit window accumulator (00_scope.md R10). -/
abbrev Accumulator := BitVec 22

/-- The 11-bit tick countdown (00_scope.md R10). -/
abbrev Countdown := BitVec 11

/-- An IEEE-754 binary32 datum, held as its bit pattern (00_scope.md R14, 10_state.md R49). -/
abbrev F32 := BitVec 32

/-- `WINDOW_SIZE`: the ticks of one window (00_scope.md R7). -/
abbrev windowSize : Nat := 1024

end Sys2Proof
end

