-- ==== Sys2Proof/Machine/Float.lean ====
section
/-! DEFINITION. The binary32 primitives of 00_scope.md R14–R16: an operand is turned into an exact integer, the
operation is done exactly on integers, and the result is rounded once, to nearest with ties to even. The meaning of
the bit pattern is IEEE-754's (93_implementation_defined.md G1; PRESUMED, notes/assumptions/7.md). -/

namespace Sys2Proof

/-- The canonical quiet NaN, the only NaN an operation produces (R14). -/
def F32.nan : F32 := 0x7FC00000

/-- `+∞`. -/
def F32.posInf : F32 := 0x7F800000

/-- `+0.0`. -/
def F32.zero : F32 := 0

/-- The sign, bit 31 (10_state.md R49). -/
def F32.sign (a : F32) : Bool := a.getLsbD 31

/-- Bits [30:0], the pattern without its sign. -/
def F32.mag (a : F32) : Nat := a.toNat % 2 ^ 31

/-- The magnitude pattern of an infinity: biased exponent 255, fraction 0. -/
def F32.infMag : Nat := 0x7F800000

/-- The NaN test `isNaN` (R14). -/
def F32.isNaN (a : F32) : Bool := decide (F32.infMag < F32.mag a)

/-- Is it `+∞` or `−∞`? -/
def F32.isInf (a : F32) : Bool := F32.mag a == F32.infMag

/-- Is it neither an infinity nor a NaN? -/
def F32.isFinite (a : F32) : Bool := decide (F32.mag a < F32.infMag)

/-- The absolute value that a finite magnitude pattern stands for, in units of 2^-149, the least subnormal: a subnormal is
its fraction; a normal datum has the hidden bit, and its exponent counts from the least normal one. -/
def F32.magUnits (m : Nat) : Nat :=
  if m / 2 ^ 23 = 0 then m % 2 ^ 23 else (2 ^ 23 + m % 2 ^ 23) * 2 ^ (m / 2 ^ 23 - 1)

/-- The absolute value of a finite datum, in units of 2^-149. -/
def F32.units (a : F32) : Nat := F32.magUnits (F32.mag a)

/-- The value of a finite datum, in units of 2^-149. -/
def F32.value (a : F32) : Int := if F32.sign a then -(F32.units a : Int) else (F32.units a : Int)

/-- The datum with the sign `neg` and the magnitude pattern `m`. -/
def F32.pack (neg : Bool) (m : Nat) : F32 := BitVec.ofNat 32 (if neg then 2 ^ 31 + m else m)

/-- The other sign. -/
def F32.neg (a : F32) : F32 := F32.pack (!F32.sign a) (F32.mag a)

/-- `n / 2^d` rounded to the nearest integer, ties to the even one. -/
def F32.divRoundEven (n d : Nat) : Nat :=
  let q := n / 2 ^ d
  let r := n % 2 ^ d
  if 2 ^ d < 2 * r ∨ (2 * r = 2 ^ d ∧ q % 2 = 1) then q + 1 else q

/-- The number of bits of `n`. -/
def F32.bitLength (n : Nat) : Nat := if n = 0 then 0 else n.log2 + 1

/-- How many low bits rounding gives up of the magnitude `n`, counted in units of 2^-(149+k): enough to keep 24
significant bits, and at least the `k` bits below the least subnormal. -/
def F32.dropped (n k : Nat) : Nat := max k (F32.bitLength n - 24)

/-- The magnitude pattern of the binary32 datum nearest to `n` units of 2^-(149+k), ties to even; from half a unit
above the greatest finite datum on, that of an infinity. The significand is added to the exponent field, so a carry
out of the significand, and the hidden bit itself, step the exponent. -/
def F32.roundMag (n k : Nat) : Nat :=
  min F32.infMag (2 ^ 23 * (F32.dropped n k - k) + F32.divRoundEven n (F32.dropped n k))

/-- The datum nearest to plus or minus `n` units of 2^-(149+k) (R14, one rounding). -/
def F32.round (neg : Bool) (n k : Nat) : F32 := F32.pack neg (F32.roundMag n k)

/-- `f32(n)` for an integer (R14). -/
def F32.ofInt (n : Int) : F32 := F32.round (decide (n < 0)) (2 ^ 149 * n.natAbs) 0

/-- `fadd(a, b)` (R14). The sum of two finite data is exact as an integer number of units, then rounded. A zero sum is
`−0.0` only if both operands are `−0.0`. -/
def F32.add (a b : F32) : F32 :=
  if F32.isNaN a || F32.isNaN b then F32.nan
  else if F32.isInf a then
    if F32.isInf b && (F32.sign a != F32.sign b) then F32.nan else a
  else if F32.isInf b then b
  else
    let sum := F32.value a + F32.value b
    F32.round (decide (sum < 0) || (F32.sign a && F32.sign b)) sum.natAbs 0

/-- `fsub(a, b)` (R14): the sum of `a` and `b` with its sign changed. -/
def F32.sub (a b : F32) : F32 := F32.add a (F32.neg b)

/-- `fmul(a, b)` (R14). The product of two finite data is an integer number of units of 2^-298, then rounded. An
infinity times a zero is invalid. -/
def F32.mul (a b : F32) : F32 :=
  let neg := F32.sign a != F32.sign b
  if F32.isNaN a || F32.isNaN b then F32.nan
  else if F32.isInf a || F32.isInf b then
    if F32.mag a == 0 || F32.mag b == 0 then F32.nan else F32.pack neg F32.infMag
  else F32.round neg (F32.units a * F32.units b) 149

/-- An integer that orders the data other than NaN as their values do: the two zeros have one key, and the magnitude
patterns rise with the magnitudes. -/
def F32.key (a : F32) : Int := if F32.sign a then -(F32.mag a : Int) else (F32.mag a : Int)

/-- `flt(a, b)`: false if either operand is a NaN (R14). -/
def F32.lt (a b : F32) : Bool := !F32.isNaN a && !F32.isNaN b && decide (F32.key a < F32.key b)

/-- "At most", on data that are not NaN: false if either operand is a NaN. -/
def F32.le (a b : F32) : Bool := !F32.isNaN a && !F32.isNaN b && decide (F32.key a ≤ F32.key b)

/-- `clamp(x, lo, hi)` (R15). -/
def F32.clamp (x lo hi : F32) : F32 :=
  if F32.isNaN x then lo
  else if F32.lt x lo then lo
  else if F32.lt hi x then hi
  else x

/-- `trunc9(x)`: the integer part of `x`, rounded toward zero, as a 9-bit code. R16 gives it for an `x` between
DC_MIN and DC_MAX, so for an `x` that is finite, not negative (or `−0.0`) and at most 511; elsewhere its value is a
DESIGN CHOICE that nothing uses (notes/assumptions/16.md). -/
def F32.trunc9 (x : F32) : Duty := BitVec.ofNat 9 (F32.units x / 2 ^ 149)

end Sys2Proof
end

