-- ==== Sys2Proof/Config.lean ====
section
/-! DEFINITION. The implementation parameters (00_scope.md R8): named by the source, valued by nobody. The model takes
each as an argument; a configuration that breaks a constraint is refused, so that there is no machine for it. -/

namespace Sys2Proof

/-- Values for the ten parameters, before the constraints of R8 are checked. -/
structure Parameters where
  dcMin  : Nat
  dcMax  : Nat
  errMin : F32
  errMax : F32
  kpCC   : F32
  kiCC   : F32
  kdCC   : F32
  kpCV   : F32
  kiCV   : F32
  kdCV   : F32
deriving DecidableEq, Repr, Inhabited

/-- The constraints of R8. -/
def Parameters.wellFormed (p : Parameters) : Bool :=
  decide (p.dcMin ≤ p.dcMax) && decide (p.dcMax ≤ 511)
    && F32.isFinite p.errMin && F32.isFinite p.errMax && F32.le p.errMin p.errMax
    && F32.isFinite p.kpCC && F32.isFinite p.kiCC && F32.isFinite p.kdCC
    && F32.isFinite p.kpCV && F32.isFinite p.kiCV && F32.isFinite p.kdCV

/-- A configuration: parameters that meet the constraints of R8. No value of this type breaks one
(92_eei_decisions.md D21). -/
structure Config where
  params : Parameters
  ok     : params.wellFormed = true
deriving DecidableEq, Repr

/-- The configuration with these parameters, or none: a configuration that breaks a constraint is refused (R8). -/
def Config.ofParameters (p : Parameters) : Option Config :=
  if h : p.wellFormed = true then some ⟨p, h⟩ else none

/-- A configuration with every gain 0, which shows that the constraints can be met. -/
def Config.idle : Config := ⟨⟨0, 511, 0, 0, 0, 0, 0, 0, 0, 0⟩, by decide⟩

/-- The implementation's own configuration: an open value of the spec (R8, 92_eei_decisions.md D21). It has no body,
so nothing can be proved of its values beyond the constraints of R8 (notes/assumptions/5.md). -/
opaque Config.implementation [Inhabited Config] : Config

/-- The configuration of the machine right after reset: the implementation's own, whatever it is. -/
def Config.chosen : Config := @Config.implementation ⟨Config.idle⟩

/-- DC_MIN (R8). -/
abbrev Config.dcMin (c : Config) : Nat := c.params.dcMin

/-- DC_MAX (R8). -/
abbrev Config.dcMax (c : Config) : Nat := c.params.dcMax

/-- ERR_MIN (R8). -/
abbrev Config.errMin (c : Config) : F32 := c.params.errMin

/-- ERR_MAX (R8). -/
abbrev Config.errMax (c : Config) : F32 := c.params.errMax

end Sys2Proof
end

