-- ==== Sys2Proof/Syntax.lean ====
section
/-! DEFINITION. The operations of spec/opcode_table.json, one constructor per row, and the three input ports with
the words they carry (30_encoding.md R92–R97). -/

namespace Sys2Proof

/-- One operation of the block, with its operand fields as they stand in the word: unsigned, not extended, not
scaled, not shifted (30_encoding.md R96, R102). -/
inductive Instr where
  /-- `TICK v, i`: one hardware tick with a voltage sample and a current sample (R93, R120). -/
  | tick (v i : Sample)
  /-- `PWM_LOAD`: the hardware load of the duty register (R92, R241). -/
  | pwmLoad
  /-- `START`: start or restart the converter (R92, R220). -/
  | start
  /-- `STOP`: stop the converter (R92, R221). -/
  | stop
  /-- `SET_IREF ref`: set the current reference and enter CC (R94, R200). -/
  | setIref (ref : Sample)
  /-- `SET_VREF ref`: set the voltage reference and enter CV (R94, R201). -/
  | setVref (ref : Sample)
  /-- `CLR_SEC`: consume the one-second flag (R92, R202). -/
  | clrSec
  /-- `READ idx`: read one register of the READ index space (R95, R203). -/
  | read (idx : Byte)
deriving DecidableEq, Repr

/-- The three input ports, one per agent (00_scope.md R6, 30_encoding.md R97). -/
inductive Port where
  | tick | timebase | host
deriving DecidableEq, Repr

/-- One word as it arrives at a port. The tick port and the timebase port carry only their own well-formed word, by
construction, so their constructors hold nothing else (30_encoding.md R97, 93_implementation_defined.md R-10;
notes/assumptions/18.md). The
host port carries words of any value. -/
inductive Input where
  | tick (v i : Sample)
  | timebase
  | host (w : Word)
deriving DecidableEq, Repr

/-- The words that reach the block in one cycle: at most one on each port (20_memory.md R76). -/
structure Cycle where
  tick     : Option (Sample × Sample)
  timebase : Bool
  host     : Option Word
deriving DecidableEq, Repr

/-- The reject causes: every synchronous error the block reports (60_exceptions.md R251). -/
inductive Cause where
  /-- Code 1, NOT_HOST_OP: the opcode is no host operation. -/
  | notHostOp
  /-- Code 2, RSV_NONZERO: a bit of the format's reserved field is 1. -/
  | rsvNonzero
  /-- Code 3, BAD_INDEX: a READ of an unassigned index. -/
  | badIndex
deriving DecidableEq, Repr

end Sys2Proof
end

