-- ==== Sys2Proof/Machine/State.lean ====
section
/-! DEFINITION. The state of the block (10_state.md R32), its outputs (R47), the words the three agents have issued and
the block has not yet applied (20_memory.md R74), and the machine right after power-on reset (70_reset_and_hazards.md
R280). -/

namespace Sys2Proof.Machine

/-- The two states of the mode machine (10_state.md R34, 42_mode_fsm.md R180). -/
inductive Mode where
  /-- `CurrentRegulation`, encoded 0. -/
  | cc
  /-- `VoltageRegulation`, encoded 1. -/
  | cv
deriving DecidableEq, Repr

/-- The relays the block commands (00_scope.md R13; DEDUCED: no `main`, notes/assumptions/14.md). -/
inductive Relay where
  | charge | discharge | cell1 | cell2 | cell3 | cell4
deriving DecidableEq, Repr

/-- The events of the output trace (00_scope.md R13). -/
inductive Event where
  | setDuty (v : Duty)
  | setRelay (which : Relay) (on : Bool)
deriving DecidableEq, Repr

/-- The response to one host word (00_scope.md R13, 30_encoding.md R101). -/
structure Response where
  ok   : Bool
  data : Word
deriving DecidableEq, Repr

/-- Everything the spec gives the block. The fields `running` to `out` are the record of 10_state.md R32. The last four
are the model's: the host responses produced so far (an output of R47), the words still to be applied in their total
order (R74), whether a power-on reset is asked for (R281), and the configuration, which is no state of the block but
has no other place in the host's interface (notes/assumptions/1.md, 2.md, 3.md, 4.md). -/
structure State where
  /-- The converter "running" flag (R33). -/
  running      : Bool
  /-- The mode (R34). -/
  mode         : Mode
  /-- The one-second flag (R35). -/
  secFlag      : Bool
  /-- The energized cell relay, 0 for none (R36). -/
  activeCell   : Fin 5
  /-- The loaded proportional gain (R37). -/
  kp           : F32
  /-- The loaded integral gain (R37). -/
  ki           : F32
  /-- The loaded derivative gain (R37). -/
  kd           : F32
  /-- The integral term (R38). -/
  errorAcc     : F32
  /-- The duty accumulator (R39). -/
  dutyAcc      : F32
  /-- The clamped previous error (R40). -/
  lastError    : F32
  /-- The current reference (R41). -/
  iRef         : Sample
  /-- The voltage reference (R41). -/
  vRef         : Sample
  /-- The tick countdown (R42). -/
  countdown    : Countdown
  /-- The seconds counter (R43). -/
  seconds      : Word
  /-- The current accumulator of the open window (R44). -/
  iAcc         : Accumulator
  /-- The voltage accumulator of the open window (R44). -/
  vAcc         : Accumulator
  /-- The current average of the last closed window (R45). -/
  iAvg         : Sample
  /-- The voltage average of the last closed window (R45). -/
  vAvg         : Sample
  /-- The duty command register the driver writes (R46). -/
  dutyShadow   : Duty
  /-- The duty command in force (R46). -/
  dutyActive   : Duty
  /-- The output trace, oldest event first (R47). -/
  out          : List Event
  /-- The responses to the host words applied so far, oldest first (R47, R101). -/
  responses    : List Response
  /-- The words issued and not yet applied, in the total order the block applies them in (R74). -/
  pending      : List Input
  /-- A power-on reset is asked for; it takes effect before the next operation (R281). -/
  resetPending : Bool
  /-- The configuration (00_scope.md R8): no operation writes it. -/
  cfg          : Config
deriving DecidableEq, Repr

/-- What stops the block: nothing. It "has no trap, exception vector, cause register or fault state" and "no operation
leaves the block stuck" (60_exceptions.md R250). A value out of range is clamped (R253), a floating-point condition
raises nothing (R254), and a malformed host word is answered with a cause code (R251, R252), which is a next state
(notes/assumptions/15.md). -/
inductive Fault where
deriving DecidableEq, Repr

/-- What the model gives no meaning. -/
inductive Refusal where
  /-- Raised by an arm of `exec` for an instruction that has no meaning yet; safe. No arm raises it: every instruction
  has its meaning. -/
  | notModelled (mnemonic : String)
deriving DecidableEq, Repr

/-- The block right after a power-on reset under the configuration `c` (70_reset_and_hazards.md R280, R281): every
field at the reset value its rule gives (10_state.md R33–R46, R49), the trace empty, no response, and the agents' word
streams afresh. -/
def State.powerOn (c : Config) : State where
  running      := false
  mode         := .cc
  secFlag      := false
  activeCell   := 0
  kp           := c.params.kpCC
  ki           := c.params.kiCC
  kd           := c.params.kdCC
  errorAcc     := F32.zero
  dutyAcc      := F32.ofInt c.dcMin
  lastError    := F32.clamp F32.zero c.errMin c.errMax
  iRef         := 0
  vRef         := 0
  countdown    := 1024
  seconds      := 0
  iAcc         := 0
  vAcc         := 0
  iAvg         := 0
  vAvg         := 0
  dutyShadow   := BitVec.ofNat 9 c.dcMin
  dutyActive   := BitVec.ofNat 9 c.dcMin
  out          := []
  responses    := []
  pending      := []
  resetPending := false
  cfg          := c

/-- The machine right after reset: the block at power-on under the implementation's own configuration, of which
nothing is known but the constraints of R8. -/
def State.reset : State := State.powerOn Config.chosen

end Sys2Proof.Machine
end

