-- ==== Sys2Proof/Machine/Flags.lean ====
section
/-! DEFINITION. The flags: the STATUS word that shows them (10_state.md R49), the output levels they and the duty
register drive (R47), the condition of the crossover (42_mode_fsm.md R181), and the writes of the one-second flag and
the running flag (R33, R35). The binary32 arithmetic has no flag (00_scope.md R14). -/

namespace Sys2Proof.Machine

/-- The mode bit: 0 for CC, 1 for CV (R34). -/
def Mode.bit : Mode → Bool
  | .cc => false
  | .cv => true

/-- The STATUS word: [0] running, [1] mode, [2] sec_flag, [3] 0, [6:4] active_cell, [31:7] 0 (R49). -/
def State.statusWord (s : State) : Word :=
  (0 : BitVec 25) ++ (BitVec.ofNat 3 s.activeCell.val ++ ((0 : BitVec 1) ++
    (BitVec.ofBool s.secFlag ++ (BitVec.ofBool s.mode.bit ++ BitVec.ofBool s.running))))

/-- The output level `pwm_duty`: the code the PWM generator uses (R47, 45_pwm_driver.md R242). -/
def State.pwmDuty (s : State) : Duty := s.dutyActive

/-- The output level `sec_irq` (R47, 60_exceptions.md R255). -/
def State.secIrq (s : State) : Bool := s.secFlag

/-- The cell relay level `cell_k`, for k = 1..4 (R47). -/
def State.cellLevel (s : State) (k : Nat) : Bool := s.activeCell.val == k

/-- The crossover condition: the mode is CC and the voltage average exceeds the voltage reference, as unsigned 12-bit
values, strictly (R181). -/
def State.crossoverDue (s : State) : Bool := decide (s.mode = .cc ∧ s.vRef.toNat < s.vAvg.toNat)

/-- Set the one-second flag; it does not count (R35, 40_scheduler.md R126). -/
def State.setSecFlag (s : State) : State := { s with secFlag := true }

/-- Clear the one-second flag (R35, 43_host_commands.md R202). -/
def State.clearSecFlag (s : State) : State := { s with secFlag := false }

/-- Write the running flag (R33). -/
def State.setRunning (r : Bool) (s : State) : State := { s with running := r }

end Sys2Proof.Machine
end

