-- ==== Sys2Proof/Machine/Ops.lean ====
section
/-! DEFINITION. The named operations the meanings share: outputs (00_scope.md R13), the reject that stands where another
machine takes an exception (60_exceptions.md R250–R252, R259), gain sets (10_state.md R37), the window registers
(10_state.md R42, R44) and the duty write (45_pwm_driver.md R240). -/

namespace Sys2Proof.Machine

/-- `emit E`: append an event to the output trace (R13). -/
def State.emit (e : Event) (s : State) : State := { s with out := s.out ++ [e] }

/-- `respond(ok, data)`: the response of a host word (R13, R101). -/
def State.respond (ok : Bool) (data : Word) (s : State) : State :=
  { s with responses := s.responses ++ [⟨ok, data⟩] }

/-- `respond(1, 0)`: the acceptance of a host word other than READ (R101). -/
def State.accept (s : State) : State := s.respond true 0

/-- The cause code a response's data field reports (R251). -/
def causeCode : Cause → Word
  | .notHostOp  => 1
  | .rsvNonzero => 2
  | .badIndex   => 3

/-- `raise Reject(cause)`: the block's only answer to an error. No field of the block's state changes, no event is
emitted, and the response is `(0, cause)`; nothing is saved, no mode changes and there is no return (R13, R252, R259). -/
def State.reject (c : Cause) (s : State) : State := s.respond false (causeCode c)

/-- A gain set (10_state.md R37). -/
structure Gains where
  kp : F32
  ki : F32
  kd : F32
deriving DecidableEq, Repr

/-- The gain set of a mode: (KP_CC, KI_CC, KD_CC) or (KP_CV, KI_CV, KD_CV) (R37). -/
def gainSet (c : Config) : Mode → Gains
  | .cc => ⟨c.params.kpCC, c.params.kiCC, c.params.kdCC⟩
  | .cv => ⟨c.params.kpCV, c.params.kiCV, c.params.kdCV⟩

/-- Load a gain set, "swapped wholesale" (R37). -/
def State.loadGains (g : Gains) (s : State) : State := { s with kp := g.kp, ki := g.ki, kd := g.kd }

/-- Go to the mode `m` with the integral at +0.0 and m's gain set: what a crossover (42_mode_fsm.md R182) and a host
mode entry that changes the mode (R184) have in common. `dutyAcc` and `lastError` stay. -/
def State.switchMode (m : Mode) (s : State) : State :=
  { s.loadGains (gainSet s.cfg m) with mode := m, errorAcc := F32.zero }

/-- `ENTER_MODE(m)`: mode entry commanded by the host; nothing if the mode is `m` already (R184). -/
def State.enterMode (m : Mode) (s : State) : State := if s.mode = m then s else s.switchMode m

/-- `f32(DC_MIN)`, the value `START`, `STOP` and reset give the duty accumulator. -/
def dutyFloor (c : Config) : F32 := F32.ofInt c.dcMin

/-- `f32(DC_MAX)`. -/
def dutyCeiling (c : Config) : F32 := F32.ofInt c.dcMax

/-- `DUTY_WRITE(v)`: write the duty command register and emit `SetDuty(v)`, even if the register holds `v` already
(R240). -/
def State.dutyWrite (v : Duty) (s : State) : State := { s with dutyShadow := v }.emit (.setDuty v)

/-- Set the duty accumulator to f32(DC_MIN) and write DC_MIN to the duty command register, as `START` and `STOP` do
(44_start_stop.md R220, R221). -/
def State.dutyToMin (s : State) : State :=
  { s with dutyAcc := dutyFloor s.cfg }.dutyWrite (BitVec.ofNat 9 s.cfg.dcMin)

/-- Open a fresh window: accumulators at zero, countdown at WINDOW_SIZE (40_scheduler.md R123, 44_start_stop.md R220). -/
def State.freshWindow (s : State) : State :=
  { s with vAcc := 0, iAcc := 0, countdown := BitVec.ofNat 11 windowSize }

end Sys2Proof.Machine
end

