-- ==== Sys2Proof/WellFormed.lean ====
section
/-! DEFINITION. Which instructions are well formed. Every operand field of the block is an unsigned field of the
width its type has (30_encoding.md R102), so the one check left is READ's index: 0x00 to 0x10 are assigned, 0x11 to
0xFF are not (10_state.md R49, 20_memory.md R71). -/

namespace Sys2Proof

/-- The first unassigned READ index (10_state.md R49). -/
abbrev firstUnassignedIndex : Nat := 0x11

/-- A READ index that names a register (10_state.md R49). -/
def assignedIndex (idx : Byte) : Bool := decide (idx.toNat < firstUnassignedIndex)

/-- The check of one instruction. -/
def Instr.wellFormed : Instr → Bool
  | .tick _ _  => true
  | .pwmLoad   => true
  | .start     => true
  | .stop      => true
  | .setIref _ => true
  | .setVref _ => true
  | .clrSec    => true
  | .read idx  => assignedIndex idx

end Sys2Proof
end

