-- ==== Sys2Proof/Machine/Operands.lean ====
section
/-! DEFINITION. How operands are read: the controller's (feedback, setpoint) pair (42_mode_fsm.md R183) and the value
of a register of the READ index space (10_state.md R49). -/

namespace Sys2Proof.Machine

/-- `SELECT`: the (feedback, setpoint) pair of the present mode (R183). -/
def State.select (s : State) : Sample × Sample :=
  match s.mode with
  | .cc => (s.iAvg, s.iRef)
  | .cv => (s.vAvg, s.vRef)

/-- `regval(s, idx)`: the 32-bit word of a READ index; bits not listed read 0 (R49). None for an unassigned index. -/
def State.regval (s : State) (idx : Byte) : Option Word :=
  match idx.toNat with
  | 0x00 => some s.statusWord
  | 0x01 => some (s.iRef.setWidth 32)
  | 0x02 => some (s.vRef.setWidth 32)
  | 0x03 => some (s.iAvg.setWidth 32)
  | 0x04 => some (s.vAvg.setWidth 32)
  | 0x05 => some (s.iAcc.setWidth 32)
  | 0x06 => some (s.vAcc.setWidth 32)
  | 0x07 => some (s.countdown.setWidth 32)
  | 0x08 => some s.seconds
  | 0x09 => some s.dutyAcc
  | 0x0A => some s.errorAcc
  | 0x0B => some s.lastError
  | 0x0C => some s.kp
  | 0x0D => some s.ki
  | 0x0E => some s.kd
  | 0x0F => some (s.dutyShadow.setWidth 32)
  | 0x10 => some (s.dutyActive.setWidth 32)
  | _    => none

end Sys2Proof.Machine
end

