-- ==== Sys2Proof/Machine/HostCommands.lean ====
section
/-! DEFINITION. The host's setpoint, flag and read commands (43_host_commands.md R200–R203). -/

namespace Sys2Proof.Machine

/-- `SET_IREF ref`: write the current reference and enter CC, running or not (R200). -/
def execSetIref (ref : Sample) (s : State) : Host.Outcome State Fault Refusal :=
  .next ({ s with iRef := ref }.enterMode .cc).accept

/-- `SET_VREF ref`: write the voltage reference and enter CV, running or not (R201). -/
def execSetVref (ref : Sample) (s : State) : Host.Outcome State Fault Refusal :=
  .next ({ s with vRef := ref }.enterMode .cv).accept

/-- `CLR_SEC`: consume the one-second flag (R202). -/
def execClrSec (s : State) : Host.Outcome State Fault Refusal := .next s.clearSecFlag.accept

/-- `READ idx`: answer with the register's word, or reject an unassigned index with cause 3; no field of the block
changes (R203; notes/assumptions/13.md). -/
def execRead (idx : Byte) (s : State) : Host.Outcome State Fault Refusal :=
  match s.regval idx with
  | some data => .next (s.respond true data)
  | none      => .next (s.reject .badIndex)

end Sys2Proof.Machine
end

