-- ==== Sys2Proof/Machine/PwmDriver.lean ====
section
/-! DEFINITION. PWM_LOAD: the hardware load of the duty register (45_pwm_driver.md R241). -/

namespace Sys2Proof.Machine

/-- `PWM_LOAD`: all nine bits of the shadow become the active code, running or not; no response (R241). -/
def execPwmLoad (s : State) : Host.Outcome State Fault Refusal := .next { s with dutyActive := s.dutyShadow }

end Sys2Proof.Machine
end

