-- ==== Sys2Proof/Machine/Control.lean ====
section
/-! DEFINITION. The control cycle: mode evaluation, operand selection, the control law and the duty write
(41_pi_controller.md R150–R156, 42_mode_fsm.md R181–R183). It has no command word; it runs inside a window-closing
TICK while running (40_scheduler.md R127). -/

namespace Sys2Proof.Machine

/-- `CROSSOVER`: CV, the integral at +0.0, the CV gain set; the duty accumulator and the last error stay (R182). -/
def State.crossover (s : State) : State := s.switchMode .cv

/-- `MODE_EVAL`: the crossover test (R181). -/
def State.modeEval (s : State) : State := if s.crossoverDue then s.crossover else s

/-- Setpoint minus feedback, exact (R152). -/
def controlError (fb sp : Sample) : F32 := F32.sub (F32.ofInt sp.toNat) (F32.ofInt fb.toNat)

/-- `PI_COMPUTE(fb, sp)`: the five steps of the control law in their order. The derivative term reads the last error
before step 2 overwrites it and goes into the same accumulator as the other terms (R151, R154). -/
def State.piCompute (fb sp : Sample) (s : State) : State :=
  let e    := controlError fb sp
  let d    := F32.mul s.kd (F32.sub e s.lastError)
  let acc  := F32.add s.dutyAcc d
  let last := F32.clamp e s.cfg.errMin s.cfg.errMax
  let integ := F32.add s.errorAcc (F32.mul s.ki last)
  let full := F32.add acc (F32.add (F32.mul last s.kp) integ)
  { s with
    lastError := last
    errorAcc  := integ
    dutyAcc   := F32.clamp full (dutyFloor s.cfg) (dutyCeiling s.cfg) }

/-- MODE_EVAL, SELECT and PI_COMPUTE: the pair is selected after a crossover of this cycle (R150, R183). -/
def State.regulate (s : State) : State :=
  let s := s.modeEval
  s.piCompute s.select.1 s.select.2

/-- `CONTROL_CYCLE`: the mode is evaluated first, the duty written last, on every cycle (R150). -/
def State.controlCycle (s : State) : State :=
  let s := s.regulate
  s.dutyWrite (F32.trunc9 s.dutyAcc)

end Sys2Proof.Machine
end

