-- ==== Sys2Proof/Machine/Scheduler.lean ====
section
/-! DEFINITION. TICK: the sample-rate scheduler and window-boundary detector (40_scheduler.md R120–R128). What the widths
do in states that 10_state.md R50 excludes is a DESIGN CHOICE (notes/assumptions/6.md). -/

namespace Sys2Proof.Machine

/-- Add this tick's samples to their accumulators, before anything else (R121). -/
def State.accumulate (v i : Sample) (s : State) : State :=
  { s with vAcc := s.vAcc + v.setWidth 22, iAcc := s.iAcc + i.setWidth 22 }

/-- Decrement the countdown (R122). -/
def State.countDown (s : State) : State := { s with countdown := s.countdown - 1 }

/-- `(S >> 10) + ((S >> 9) & 1)`: S / 1024 rounded to nearest, ties upward, into the 12-bit average (R124). -/
def average (acc : Accumulator) : Sample := BitVec.ofNat 12 (acc.toNat / 2 ^ 10 + acc.toNat / 2 ^ 9 % 2)

/-- Close the window: averages, a fresh window, the seconds counter modulo 2^32, the one-second flag (R123–R126). -/
def State.closeWindow (s : State) : State :=
  let s := { s with vAvg := average s.vAcc, iAvg := average s.iAcc }
  let s := s.freshWindow
  { s with seconds := s.seconds + 1 }.setSecFlag

/-- What a closed window triggers: the control cycle while running, nothing while stopped (R127). -/
def State.afterClose (s : State) : State := if s.running then s.controlCycle else s

/-- `TICK v, i` (R120). -/
def execTick (v i : Sample) (s : State) : Host.Outcome State Fault Refusal :=
  let s := (s.accumulate v i).countDown
  .next (if s.countdown = 0 then s.closeWindow.afterClose else s)

end Sys2Proof.Machine
end

