-- ==== Sys2Proof/Machine/StartStop.lean ====
section
/-! DEFINITION. START and STOP: the converter start and stop sequences, in the order of their steps
(44_start_stop.md R220, R221). -/

namespace Sys2Proof.Machine

/-- `START`: the whole sequence, running or not (R220). `lastError`, the references, the averages, `secFlag` and
`dutyActive` stay. -/
def execStart (s : State) : Host.Outcome State Fault Refusal :=
  let s := { s with activeCell := 1 }
  let s := s.switchMode .cc
  let s := s.dutyToMin
  let s := s.emit (.setRelay .cell1 true)
  let s := { s with seconds := 0 }
  let s := s.freshWindow
  let s := s.setRunning true
  .next s.accept

/-- `STOP`: the whole sequence, running or not (R221). The mode, the gains, `errorAcc`, `lastError`, the references,
the window, `seconds`, `secFlag` and `dutyActive` stay. -/
def execStop (s : State) : Host.Outcome State Fault Refusal :=
  let s := s.emit (.setRelay .charge false)
  let s := s.emit (.setRelay .discharge false)
  let s := s.setRunning false
  let s := s.dutyToMin
  let s := s.emit (.setRelay .cell1 false)
  let s := s.emit (.setRelay .cell2 false)
  let s := s.emit (.setRelay .cell3 false)
  let s := s.emit (.setRelay .cell4 false)
  let s := { s with activeCell := 0 }
  .next s.accept

end Sys2Proof.Machine
end

