-- ==== Sys2Proof/Machine/Dispatch.lean ====
section
/-! DEFINITION. One arm per operation of spec/opcode_table.json, each a direct call of its meaning. -/

namespace Sys2Proof.Machine

/-- The meaning of an instruction. -/
def exec (i : Instr) (s : State) : Host.Outcome State Fault Refusal :=
  match i with
  | .tick v c => Sys2Proof.Machine.execTick v c s
  | .pwmLoad => Sys2Proof.Machine.execPwmLoad s
  | .start => Sys2Proof.Machine.execStart s
  | .stop => Sys2Proof.Machine.execStop s
  | .setIref ref => Sys2Proof.Machine.execSetIref ref s
  | .setVref ref => Sys2Proof.Machine.execSetVref ref s
  | .clrSec => Sys2Proof.Machine.execClrSec s
  | .read idx => Sys2Proof.Machine.execRead idx s

end Sys2Proof.Machine
end

