-- ==== Sys2Proof/Decode.lean ====
section
/-! DEFINITION. From command words to instructions and back: the opcode map (30_encoding.md R90–R96), the dispatch
of a word at a port with its reject causes (R97–R100), and the encoder (R103). -/

namespace Sys2Proof

/-- Bits [31:28]: the opcode field (R91). -/
def opField (w : Word) : BitVec 4 := w.extractLsb' 28 4

/-- Bits [27:0]: the reserved field of format N (R92). -/
def rsvFieldN (w : Word) : BitVec 28 := w.extractLsb' 0 28

/-- Bits [27:24]: the reserved field of format T (R93). -/
def rsvFieldT (w : Word) : BitVec 4 := w.extractLsb' 24 4

/-- Bits [27:12]: the reserved field of format S (R94). -/
def rsvFieldS (w : Word) : BitVec 16 := w.extractLsb' 12 16

/-- Bits [27:8]: the reserved field of format R (R95). -/
def rsvFieldR (w : Word) : BitVec 20 := w.extractLsb' 8 20

/-- Bits [23:12]: the voltage sample of format T (R93). -/
def vField (w : Word) : Sample := w.extractLsb' 12 12

/-- Bits [11:0]: the current sample of format T (R93). -/
def iField (w : Word) : Sample := w.extractLsb' 0 12

/-- Bits [11:0]: the reference of format S (R94). -/
def refField (w : Word) : Sample := w.extractLsb' 0 12

/-- Bits [7:0]: the register index of format R (R95). -/
def idxField (w : Word) : Byte := w.extractLsb' 0 8

/-- Why a word is the instruction of no row of the opcode map. -/
inductive DecodeError where
  /-- The opcode is 0x0 or 0x9..0xF (R96). -/
  | reservedOpcode
  /-- A bit of the format's reserved field is 1, so the word matches no row (R96). -/
  | reservedField
deriving DecidableEq, Repr

/-- `i`, if the reserved field is zero. -/
def whenReservedZero (isZero : Bool) (i : Instr) : Except DecodeError Instr :=
  if isZero then .ok i else .error .reservedField

/-- The opcode map: the row a word is the instruction of, whatever port it might stand at (R96). Total on the 2^32
words; READ's index is an operand, not part of the row's match. -/
def decode (w : Word) : Except DecodeError Instr :=
  match (opField w).toNat with
  | 0x1 => whenReservedZero (rsvFieldT w == 0) (.tick (vField w) (iField w))
  | 0x2 => whenReservedZero (rsvFieldN w == 0) .pwmLoad
  | 0x3 => whenReservedZero (rsvFieldN w == 0) .start
  | 0x4 => whenReservedZero (rsvFieldN w == 0) .stop
  | 0x5 => whenReservedZero (rsvFieldS w == 0) (.setIref (refField w))
  | 0x6 => whenReservedZero (rsvFieldS w == 0) (.setVref (refField w))
  | 0x7 => whenReservedZero (rsvFieldN w == 0) .clrSec
  | 0x8 => whenReservedZero (rsvFieldR w == 0) (.read (idxField w))
  | _   => .error .reservedOpcode

/-- The instruction a host word stands for, or the cause it is rejected with: the checks of R100 in the order
written, so the lowest cause is the one reported (R98, 60_exceptions.md R251, R258). -/
def decodeHost (w : Word) : Except Cause Instr :=
  let op := (opField w).toNat
  if op < 0x3 ∨ 0x8 < op then .error .notHostOp
  else if (op = 0x3 ∨ op = 0x4 ∨ op = 0x7) ∧ rsvFieldN w ≠ 0 then .error .rsvNonzero
  else if (op = 0x5 ∨ op = 0x6) ∧ rsvFieldS w ≠ 0 then .error .rsvNonzero
  else if op = 0x8 ∧ rsvFieldR w ≠ 0 then .error .rsvNonzero
  else if op = 0x8 ∧ assignedIndex (idxField w) = false then .error .badIndex
  else
    match op with
    | 0x3 => .ok .start
    | 0x4 => .ok .stop
    | 0x5 => .ok (.setIref (refField w))
    | 0x6 => .ok (.setVref (refField w))
    | 0x7 => .ok .clrSec
    | _   => .ok (.read (idxField w))

/-- Dispatch of the word `w` at the port `p` (R100). The tick port and the timebase port read only the operand
fields; the host port checks. -/
def dispatch (p : Port) (w : Word) : Except Cause Instr :=
  match p with
  | .tick     => .ok (.tick (vField w) (iField w))
  | .timebase => .ok .pwmLoad
  | .host     => decodeHost w

/-- A format N word: the opcode over 28 zero bits (R92). -/
def formatN (op : BitVec 4) : Word := op ++ (0 : BitVec 28)

/-- A format S word: the opcode, 16 zero bits, the reference (R94). -/
def formatS (op : BitVec 4) (ref : Sample) : Word := op ++ ((0 : BitVec 16) ++ ref)

/-- The word of an instruction (R92–R96, R103). -/
def encode : Instr → Word
  | .tick v i    => (0x1 : BitVec 4) ++ ((0 : BitVec 4) ++ (v ++ i))
  | .pwmLoad     => formatN 0x2
  | .start       => formatN 0x3
  | .stop        => formatN 0x4
  | .setIref ref => formatS 0x5 ref
  | .setVref ref => formatS 0x6 ref
  | .clrSec      => formatN 0x7
  | .read idx    => (0x8 : BitVec 4) ++ ((0 : BitVec 20) ++ idx)

/-- The port a word arrives at. -/
def Input.port : Input → Port
  | .tick _ _ => .tick
  | .timebase => .timebase
  | .host _   => .host

/-- The 32-bit word on the port. -/
def Input.word : Input → Word
  | .tick v i => encode (.tick v i)
  | .timebase => encode .pwmLoad
  | .host w   => w

/-- A word at a port as an input, if the port can carry it (R97, 93_implementation_defined.md R-10). -/
def Input.ofPortWord (p : Port) (w : Word) : Option Input :=
  match p with
  | .tick => match decode w with
    | .ok (.tick v i) => some (.tick v i)
    | _               => none
  | .timebase => if w = encode .pwmLoad then some .timebase else none
  | .host => some (.host w)

/-- The port an operation is issued at (R96). -/
def Instr.port : Instr → Port
  | .tick _ _  => .tick
  | .pwmLoad   => .timebase
  | .start     => .host
  | .stop      => .host
  | .setIref _ => .host
  | .setVref _ => .host
  | .clrSec    => .host
  | .read _    => .host

/-- An instruction as its agent issues it: its word, at its port (R96, R97). -/
def Instr.toInput : Instr → Input
  | .tick v i    => .tick v i
  | .pwmLoad     => .timebase
  | .start       => .host (encode .start)
  | .stop        => .host (encode .stop)
  | .setIref ref => .host (encode (.setIref ref))
  | .setVref ref => .host (encode (.setVref ref))
  | .clrSec      => .host (encode .clrSec)
  | .read idx    => .host (encode (.read idx))

/-- A word as an input at the port of the operation it encodes; a word that is no operation goes to the host port,
which takes words of any value (R97). -/
def Input.ofWord (w : Word) : Input :=
  match decode w with
  | .ok i    => i.toInput
  | .error _ => .host w

/-- The 32-bit word whose low `nbits` bits are those of `w` and whose other bits are 0. -/
def tableWord (nbits w : Nat) : Word := BitVec.ofNat 32 (w % 2 ^ nbits)

/-- The instruction the decoder reads from a word given as the opcode table numbers its bits. The block has one
length, 32 bits (R90). -/
def decodeTableWord (nbits w : Nat) : Option Instr :=
  if 32 < nbits then none else (decode (tableWord nbits w)).toOption

end Sys2Proof
end

