-- ==== Sys2Proof/Machine/Fetch.lean ====
section
/-! DEFINITION. Where the next operation comes from. The block has no program counter and no fetch (10_state.md R31): it
takes the next command word of the total order the three agents' words form (20_memory.md R74), and a power-on reset
takes effect between two operations (70_reset_and_hazards.md R281). -/

namespace Sys2Proof.Machine

/-- What the block finds to do next. -/
inductive Fetched where
  /-- A power-on reset is asked for. -/
  | reset
  /-- No word is waiting. -/
  | idle
  /-- A host word that stands for no operation, and its cause; the state has the word taken off. -/
  | rejected (c : Cause) (s : State)
  /-- An operation; the state has its word taken off. -/
  | instr (i : Instr) (s : State)
deriving DecidableEq, Repr

/-- Take the next word off and dispatch it at its port (30_encoding.md R100). -/
def State.fetch (s : State) : Fetched :=
  if s.resetPending then .reset
  else
    match s.pending with
    | [] => .idle
    | x :: rest =>
      match dispatch x.port x.word with
      | .ok i    => .instr i { s with pending := rest }
      | .error c => .rejected c { s with pending := rest }

/-- The words of one cycle in the order the block applies them: the tick, the timebase, the host (R76). -/
def cycleInputs (c : Cycle) : List Input :=
  (match c.tick with
    | some (v, i) => [Input.tick v i]
    | none        => [])
  ++ (if c.timebase then [Input.timebase] else [])
  ++ (match c.host with
    | some w => [Input.host w]
    | none   => [])

/-- The words of one cycle arrive, behind those that wait (R74, R76; DESIGN CHOICE, notes/assumptions/10.md). -/
def State.arrive (c : Cycle) (s : State) : State := { s with pending := s.pending ++ cycleInputs c }

/-- A power-on reset is asked for (R281; notes/assumptions/3.md). -/
def State.requestReset (s : State) : State := { s with resetPending := true }

end Sys2Proof.Machine
end

