-- ==== Sys2Proof/Machine/Step.lean ====
section
/-! DEFINITION. One step of the block: the next word of the total order applied as one indivisible transition
(20_memory.md R73, R74). -/

namespace Sys2Proof.Machine

/-- One step. The block is passive: with no word waiting nothing changes (00_scope.md R6). A host word that stands for
no operation is answered with its cause (60_exceptions.md R252). A reset asked for puts every field at its reset value
and discards the words not yet applied (70_reset_and_hazards.md R280, R281). -/
def step (s : State) : Host.Outcome State Fault Refusal :=
  match s.fetch with
  | .reset          => .next (State.powerOn s.cfg)
  | .idle           => .next s
  | .rejected c rest => .next (rest.reject c)
  | .instr i rest    => exec i rest

/-- `s` with the operation of the word `w` as the next one: its word waits first, at its own port, and no reset is asked
for (DESIGN CHOICE, notes/assumptions/8.md). -/
def State.withFetchWord (s : State) (nbits w : Nat) : State :=
  { s with pending := Input.ofWord (tableWord nbits w) :: s.pending, resetPending := false }

end Sys2Proof.Machine
end

