-- ==== Sys2Proof/Machine/HostProtocol.lean ====
section
/-! DEFINITION. Host-side pseudo-operations: which command words a host that implements the source's ASCII protocol
sends for a line (30_encoding.md R110–R112), and the expansions of the tick stream (R104). The interpreter is outside
the block: nothing here is state of the block, and the block's step does not use it (00_scope.md R5). -/

namespace Sys2Proof.Machine

/-- What the host makes of one line (R110). -/
inductive LineResult where
  /-- `*`: the identity string is sent; no block word. -/
  | identity
  /-- `M`: a reserved hook, no response defined; no block word. -/
  | measHook
  /-- The line stands for one operation. -/
  | operation (i : Instr)
  /-- `C` with `:`: set current protection, reserved; no block word. -/
  | currentProtection
  /-- `V` with `:`: set voltage protection, reserved; no block word. -/
  | voltageProtection
  /-- Failure, no state mutated; no block word. -/
  | failure
deriving DecidableEq, Repr

/-- The block word the host sends for a line, if any (R110). -/
def LineResult.word : LineResult → Option Word
  | .operation i => some (encode i)
  | _            => none

/-- The bytes of a line: up to a newline, at most 20 (R110; the newline byte: PRESUMED, notes/assumptions/11.md). -/
def lineBytes (bytes : List Byte) : List Byte := (bytes.take 20).takeWhile (· ≠ 0x0A)

/-- The value of an ASCII digit. -/
def digitValue (b : Byte) : Option Nat :=
  if 0x30 ≤ b.toNat ∧ b.toNat ≤ 0x39 then some (b.toNat - 0x30) else none

/-- The decimal number that `bytes` begins with, read onto `acc`. -/
def decimalFrom (acc : Nat) : List Byte → Nat
  | [] => acc
  | b :: rest =>
    match digitValue b with
    | some d => decimalFrom (10 * acc + d) rest
    | none   => acc

/-- The value written from b[5] on, up to the first byte that is no digit; none if b[5] is no digit (R112). -/
def lineValue (line : List Byte) : Option Nat :=
  match line.drop 5 with
  | []     => none
  | b :: _ => (digitValue b).map fun _ => decimalFrom 0 (line.drop 5)

/-- `conv(raw, fs)`: raw × 4096 / fs rounded half up, at most 4095 (R111). -/
def convert (raw fs : Nat) : Sample := BitVec.ofNat 12 (min 4095 ((2 * raw * 4096 + fs) / (2 * fs)))

/-- `conv_v`, for a voltage in mV: the full scale is 5000 (00_scope.md R9, R111). -/
def convertVoltage (raw : Nat) : Sample := convert raw 5000

/-- `conv_i`: the full scale is 5000 × 2.5 = 12500 (00_scope.md R9, R111). -/
def convertCurrent (raw : Nat) : Sample := convert raw 12500

/-- A line that sets a reference: the operation, or failure if no value is written (R112). -/
def setpointLine (op : Sample → Instr) (conv : Nat → Sample) (line : List Byte) : LineResult :=
  match lineValue line with
  | some raw => .operation (op (conv raw))
  | none     => .failure

/-- An `O` line, told apart by b[7] (R110, 90_conflicts.md C1). -/
def outputLine (b : List Byte) : LineResult :=
  if b[7]? = some 0x41 then .operation .start
  else if b[7]? = some 0x4F then .operation .stop
  else .failure

/-- A `C` or `V` line, told apart by b[4]: a space sets the reference, a colon is the reserved protection (R110). -/
def referenceLine (op : Sample → Instr) (conv : Nat → Sample) (protection : LineResult) (b : List Byte) :
    LineResult :=
  if b[4]? = some 0x20 then setpointLine op conv b
  else if b[4]? = some 0x3A then protection
  else .failure

/-- An `M` line, told apart by b[5] (R110). -/
def measLine (b : List Byte) : LineResult :=
  if b[5]? = some 0x56 ∨ b[5]? = some 0x49 then .measHook else .failure

/-- Line recognition: the first byte picks the branch, and branches are exclusive (R110). -/
def recognize (bytes : List Byte) : LineResult :=
  let line := lineBytes bytes
  match line.head? with
  | none   => .failure
  | some b =>
    if b = 0x2A then .identity
    else if b = 0x4D then measLine line
    else if b = 0x4F then outputLine line
    else if b = 0x43 then referenceLine .setIref convertCurrent .currentProtection line
    else if b = 0x56 then referenceLine .setVref convertVoltage .voltageProtection line
    else .failure

/-- `TICKS n, v, i`: n TICK words on the tick port (R104). -/
def ticks (n : Nat) (v i : Sample) : List Input := List.replicate n (.tick v i)

/-- `WINDOW v, i`: one full window, if the countdown is 1024 before it (R104). -/
def window (v i : Sample) : List Input := ticks windowSize v i

end Sys2Proof.Machine
end

