-- ==== Sys2Proof/Machine/Assembler.lean ====
section
/-! DEFINITION. The assembler syntax (30_encoding.md R103, R104): one operation a line, a semicolon starts a comment,
numbers are decimal or hexadecimal with `0x`. A tool of the host side: the block's step does not use it. What R103 leaves
open of the syntax is a DESIGN CHOICE (notes/assumptions/12.md). -/

namespace Sys2Proof.Machine

/-- A token of a line. -/
inductive Token where
  | word (cs : List Char)
  | comma
deriving DecidableEq, Repr

/-- The line without its comment (R103). -/
def withoutComment (line : List Char) : List Char := line.takeWhile (· ≠ ';')

/-- End the word `cur`, collected in reverse. -/
def closeWord (cur : List Char) (rest : List Token) : List Token :=
  if cur = [] then rest else .word cur.reverse :: rest

/-- The tokens of a line: words between spaces, tabs and commas, and the commas. -/
def tokensFrom (cur : List Char) : List Char → List Token
  | [] => closeWord cur []
  | c :: rest =>
    if c = ' ' ∨ c = '\t' then closeWord cur (tokensFrom [] rest)
    else if c = ',' then closeWord cur (.comma :: tokensFrom [] rest)
    else tokensFrom (c :: cur) rest

/-- The value of a digit of the given base. -/
def digitOf (base : Nat) (c : Char) : Option Nat :=
  let v :=
    if '0'.toNat ≤ c.toNat ∧ c.toNat ≤ '9'.toNat then c.toNat - '0'.toNat
    else if 'a'.toNat ≤ c.toNat ∧ c.toNat ≤ 'f'.toNat then c.toNat - 'a'.toNat + 10
    else if 'A'.toNat ≤ c.toNat ∧ c.toNat ≤ 'F'.toNat then c.toNat - 'A'.toNat + 10
    else base
  if v < base then some v else none

/-- The number that `cs` writes in full in the base, read onto `acc`. -/
def numberFrom (base acc : Nat) : List Char → Option Nat
  | [] => some acc
  | c :: rest => (digitOf base c).bind fun d => numberFrom base (base * acc + d) rest

/-- A decimal number, or a hexadecimal one with `0x` (R103). -/
def number (cs : List Char) : Option Nat :=
  match cs with
  | [] => none
  | '0' :: 'x' :: [] => none
  | '0' :: 'x' :: hex => numberFrom 16 0 hex
  | _ => numberFrom 10 0 cs

/-- A number that fits `bits` bits. -/
def field (bits : Nat) (cs : List Char) : Option (BitVec bits) :=
  (number cs).bind fun n => if n < 2 ^ bits then some (BitVec.ofNat bits n) else none

/-- The register names READ takes, in the order of their indices (10_state.md R49). -/
def registerNames : List (List Char) :=
  [['S', 'T', 'A', 'T', 'U', 'S'], ['I', 'R', 'E', 'F'], ['V', 'R', 'E', 'F'], ['I', 'A', 'V', 'G'],
   ['V', 'A', 'V', 'G'], ['I', 'A', 'C', 'C'], ['V', 'A', 'C', 'C']]
  ++ [['C', 'O', 'U', 'N', 'T', 'D', 'O', 'W', 'N'], ['S', 'E', 'C', 'O', 'N', 'D', 'S'],
   ['D', 'U', 'T', 'Y', 'A', 'C', 'C'], ['E', 'R', 'R', 'A', 'C', 'C'], ['L', 'A', 'S', 'T', 'E', 'R', 'R']]
  ++ [['K', 'P'], ['K', 'I'], ['K', 'D'], ['D', 'U', 'T', 'Y', 'S', 'H'], ['D', 'U', 'T', 'Y', 'A', 'C', 'T']]

/-- The operand of READ: a register name or a number (R103). -/
def readIndex (cs : List Char) : Option Byte :=
  if registerNames.contains cs then some (BitVec.ofNat 8 (registerNames.idxOf cs)) else field 8 cs

/-- The words a line of tokens stands for, each at its own port (R103, R104); none if it is no operation. -/
def assembleTokens : List Token → Option (List Input)
  | [] => some []
  | [.word ['T', 'I', 'C', 'K'], .word v, .comma, .word i] =>
    (field 12 v).bind fun v => (field 12 i).map fun i => [Input.tick v i]
  | [.word ['P', 'W', 'M', '_', 'L', 'O', 'A', 'D']] => some [Instr.pwmLoad.toInput]
  | [.word ['S', 'T', 'A', 'R', 'T']] => some [Instr.start.toInput]
  | [.word ['S', 'T', 'O', 'P']] => some [Instr.stop.toInput]
  | [.word ['S', 'E', 'T', '_', 'I', 'R', 'E', 'F'], .word r] => (field 12 r).map fun r => [(Instr.setIref r).toInput]
  | [.word ['S', 'E', 'T', '_', 'V', 'R', 'E', 'F'], .word r] => (field 12 r).map fun r => [(Instr.setVref r).toInput]
  | [.word ['C', 'L', 'R', '_', 'S', 'E', 'C']] => some [Instr.clrSec.toInput]
  | [.word ['R', 'E', 'A', 'D'], .word x] => (readIndex x).map fun x => [(Instr.read x).toInput]
  | [.word ['T', 'I', 'C', 'K', 'S'], .word n, .comma, .word v, .comma, .word i] =>
    (number n).bind fun n => (field 12 v).bind fun v => (field 12 i).map fun i => ticks n v i
  | [.word ['W', 'I', 'N', 'D', 'O', 'W'], .word v, .comma, .word i] =>
    (field 12 v).bind fun v => (field 12 i).map fun i => window v i
  | _ => none

/-- The words one line of assembly stands for (R103, R104). -/
def assemble (line : List Char) : Option (List Input) := assembleTokens (tokensFrom [] (withoutComment line))

end Sys2Proof.Machine
end

