-- ==== Sys2Proof/Safety.lean ====
section
/-! DEFINITION. What counts as a safe state, in the terms the claims use: the invariants of 10_state.md R50 with those
its operation rules imply, the runs claims speak of, and the parts of a step they compare. -/

namespace Sys2Proof.Machine

/-- The duty accumulator is no NaN and lies in [f32(DC_MIN), f32(DC_MAX)] (R50 item 1). -/
def State.dutyAccInRange (s : State) : Prop :=
  F32.le (dutyFloor s.cfg) s.dutyAcc = true ∧ F32.le s.dutyAcc (dutyCeiling s.cfg) = true

/-- The last error is no NaN and lies in [ERR_MIN, ERR_MAX] (R50 item 2). -/
def State.lastErrorInRange (s : State) : Prop :=
  F32.le s.cfg.errMin s.lastError = true ∧ F32.le s.lastError s.cfg.errMax = true

/-- A duty code lies in [DC_MIN, DC_MAX]. -/
def dutyAllowed (c : Config) (v : Duty) : Prop := c.dcMin ≤ v.toNat ∧ v.toNat ≤ c.dcMax

/-- The samples the open window has taken in (R42). -/
def State.samplesTaken (s : State) : Nat := windowSize - s.countdown.toNat

/-- What holds between any two operations, from power-on reset onward. The first eight fields are R50's items 1 to 6;
the others follow from the operation rules. -/
structure State.Inv (s : State) : Prop where
  /-- R50 item 1. -/
  dutyAcc : s.dutyAccInRange
  /-- R50 item 2. -/
  lastError : s.lastErrorInRange
  /-- R50 item 3. -/
  countdown : 1 ≤ s.countdown.toNat ∧ s.countdown.toNat ≤ windowSize
  /-- R50 item 4, current. -/
  iAcc : s.iAcc.toNat ≤ s.samplesTaken * 4095
  /-- R50 item 4, voltage. -/
  vAcc : s.vAcc.toNat ≤ s.samplesTaken * 4095
  /-- R50 item 5, the shadow. -/
  dutyShadow : dutyAllowed s.cfg s.dutyShadow
  /-- R50 item 5, the active code. -/
  dutyActive : dutyAllowed s.cfg s.dutyActive
  /-- R50 item 6: the cell relay is cell 1's while running, none while stopped (R220, R221). -/
  activeCell : s.activeCell = if s.running then 1 else 0
  /-- The duty command is `trunc9` of the duty accumulator (R18, R150, R220, R221). -/
  dutyCommand : s.dutyShadow = F32.trunc9 s.dutyAcc
  /-- The loaded gains are the set of the present mode (R37, R182, R184, R220). -/
  gains : (⟨s.kp, s.ki, s.kd⟩ : Gains) = gainSet s.cfg s.mode
  /-- The integral is never a NaN other than the canonical one (R14). -/
  integral : F32.isNaN s.errorAcc = true → s.errorAcc = F32.nan

/-- A sequence of operations, each applied to the state the previous one left (20_memory.md R74). -/
def execAll : List Instr → State → Host.Outcome State Fault Refusal
  | [], s => .next s
  | i :: rest, s =>
    match exec i s with
    | .next t    => execAll rest t
    | .fault r   => .fault r
    | .refused r => .refused r

/-- The TICK words of a list of (voltage, current) samples. -/
def tickList (samples : List (Sample × Sample)) : List Instr := samples.map fun p => .tick p.1 p.2

/-- The sum of the voltage samples. -/
def voltageSum (samples : List (Sample × Sample)) : Nat := (samples.map fun p => p.1.toNat).sum

/-- The sum of the current samples. -/
def currentSum (samples : List (Sample × Sample)) : Nat := (samples.map fun p => p.2.toNat).sum

/-- `i` is a TICK that closes the window of `s` (10_state.md R52). -/
def closesWindow (i : Instr) (s : State) : Prop := (∃ v c, i = .tick v c) ∧ s.countdown = 1

/-- `i` is an operation of the host port (30_encoding.md R96). -/
def hostOperation (i : Instr) : Bool := i.port == .host

/-- A magnitude of 2^-149 units from which on rounding to nearest gives an infinity: half a unit of the last place
above the greatest finite datum. -/
def overflowUnits : Nat := (2 ^ 25 - 1) * 2 ^ 252

/-- `r` is the exact value `num` units of 2^-(149+k), rounded to nearest with ties to even: an infinity of the exact
value's sign from the overflow threshold on; below it a finite datum nearest to the exact value, whose pattern is even
if another datum of a different value is as near. -/
def correctlyRounded (num : Int) (k : Nat) (r : F32) : Prop :=
  (overflowUnits * 2 ^ k ≤ num.natAbs → r = F32.pack (decide (num < 0)) F32.infMag) ∧
  (num.natAbs < overflowUnits * 2 ^ k →
    F32.isFinite r = true ∧
    ∀ c : F32, F32.isFinite c = true →
      (num - F32.value r * 2 ^ k).natAbs ≤ (num - F32.value c * 2 ^ k).natAbs ∧
      ((num - F32.value r * 2 ^ k).natAbs = (num - F32.value c * 2 ^ k).natAbs →
        F32.value c ≠ F32.value r → r.toNat % 2 = 0))

end Sys2Proof.Machine
end

