-- ==== Sys2Proof/Certificates/Slice0/Obligations.lean ====
section
/-! DEFINITION. The statements for the provers, each with the rule of spec/ it formalises. Words, fields and results are
spelled in the statement where the rule spells them; the model's own functions stand only where a statement is about
them. -/

open Sys2Proof Sys2Proof.Machine

/-! ### Encoding and dispatch -/

/-- The words of 95_test_vectors.md section 3.1 are the operations they are written for (30_encoding.md R92–R96, R103).
V-ENC-2 gives `TICK 4095, 4095` the word 0x1FFFFFFF, whose reserved bits R93 forbids; the rule governs
(notes/assumptions/9.md). -/
def Obligations.WrittenOutWordsDecode : Prop :=
  decode 0x103E8800 = .ok (.tick 1000 2048) ∧
  decode 0x10FFFFFF = .ok (.tick 4095 4095) ∧
  decode 0x10000000 = .ok (.tick 0 0) ∧
  decode 0x20000000 = .ok .pwmLoad ∧
  decode 0x30000000 = .ok .start ∧
  decode 0x40000000 = .ok .stop ∧
  decode 0x500000A4 = .ok (.setIref 164) ∧
  decode 0x60000FFF = .ok (.setVref 4095) ∧
  decode 0x70000000 = .ok .clrSec ∧
  decode 0x80000000 = .ok (.read 0x00) ∧
  decode 0x80000010 = .ok (.read 0x10)

/-- Decoding an encoded instruction gives it back, with every operand at every value its field admits (R92–R96, R103). -/
def Obligations.DecodeOfEncode : Prop := ∀ i : Instr, decode (encode i) = .ok i

/-- A word that decodes is the word its instruction is encoded as: each word has one meaning (R96, R103). -/
def Obligations.EncodeOfDecode : Prop := ∀ (w : Word) (i : Instr), decode w = .ok i → encode i = w

/-- R96: a word is the instruction of a row exactly when its masked bits are the row's match, at the row's port; a word
of no row is rejected. -/
def Obligations.WordIsARowsInstructionWhenItMatches : Prop := ∀ w : Word,
  (w &&& 0xFF000000 = 0x10000000 ↔ ∃ v c, decode w = .ok (.tick v c) ∧ (Instr.tick v c).port = .tick) ∧
  (w &&& 0xFFFFFFFF = 0x20000000 ↔ decode w = .ok .pwmLoad ∧ Instr.pwmLoad.port = .timebase) ∧
  (w &&& 0xFFFFFFFF = 0x30000000 ↔ decode w = .ok .start ∧ Instr.start.port = .host) ∧
  (w &&& 0xFFFFFFFF = 0x40000000 ↔ decode w = .ok .stop ∧ Instr.stop.port = .host) ∧
  (w &&& 0xFFFFF000 = 0x50000000 ↔ ∃ r, decode w = .ok (.setIref r) ∧ (Instr.setIref r).port = .host) ∧
  (w &&& 0xFFFFF000 = 0x60000000 ↔ ∃ r, decode w = .ok (.setVref r) ∧ (Instr.setVref r).port = .host) ∧
  (w &&& 0xFFFFFFFF = 0x70000000 ↔ decode w = .ok .clrSec ∧ Instr.clrSec.port = .host) ∧
  (w &&& 0xFFFFFF00 = 0x80000000 ↔ ∃ x, decode w = .ok (.read x) ∧ (Instr.read x).port = .host) ∧
  (w &&& 0xF0000000 = 0 ∨ 0x90000000 ≤ w.toNat → decode w = .error .reservedOpcode) ∧
  (∀ e, decode w = .error e → ∃ cause, dispatch .host w = .error cause)

/-- R98, R252, R258: on the host port, an opcode that is no host operation is cause 1, else a reserved bit is
cause 2, else an unassigned READ index is cause 3. The block answers `(0, cause)` and nothing else of it changes. (The
lists of responses and of waiting words are the model's fields, notes/assumptions/1.md and 2.md.) -/
def Obligations.MalformedHostWordIsRejected : Prop := ∀ (s : State) (w : Word) (rest : List Input),
  s.resetPending = false → s.pending = .host w :: rest →
  let op := w.toNat / 2 ^ 28
  let answer (code : Word) := { s with pending := rest, responses := s.responses ++ [⟨false, code⟩] }
  let rsv := (op = 3 ∨ op = 4 ∨ op = 7) ∧ w.toNat % 2 ^ 28 ≠ 0
    ∨ (op = 5 ∨ op = 6) ∧ w.toNat % 2 ^ 28 / 2 ^ 12 ≠ 0
    ∨ op = 8 ∧ w.toNat % 2 ^ 28 / 2 ^ 8 ≠ 0
  (op < 3 ∨ 8 < op → step s = .next (answer 1)) ∧
  (rsv → step s = .next (answer 2)) ∧
  (op = 8 ∧ w.toNat % 2 ^ 28 / 2 ^ 8 = 0 ∧ 0x11 ≤ w.toNat % 2 ^ 8 → step s = .next (answer 3))

/-- R100, R102: a host word that no check of R100 rejects runs the operation of its opcode, with its operand field taken
as it stands. -/
def Obligations.WellFormedHostWordRunsItsOperation : Prop := ∀ (s : State) (w : Word) (rest : List Input),
  s.resetPending = false → s.pending = .host w :: rest →
  let after := { s with pending := rest }
  (w.toNat = 3 * 2 ^ 28 → step s = exec .start after) ∧
  (w.toNat = 4 * 2 ^ 28 → step s = exec .stop after) ∧
  (∀ r : Nat, r < 2 ^ 12 → w.toNat = 5 * 2 ^ 28 + r → step s = exec (.setIref (BitVec.ofNat 12 r)) after) ∧
  (∀ r : Nat, r < 2 ^ 12 → w.toNat = 6 * 2 ^ 28 + r → step s = exec (.setVref (BitVec.ofNat 12 r)) after) ∧
  (w.toNat = 7 * 2 ^ 28 → step s = exec .clrSec after) ∧
  (∀ x : Nat, x < 0x11 → w.toNat = 8 * 2 ^ 28 + x → step s = exec (.read (BitVec.ofNat 8 x)) after)

/-- R99: every host word is either exactly one host operation with the word as its encoding, or rejected. -/
def Obligations.HostWordIsOneOperationOrRejected : Prop := ∀ w : Word,
  (∃ i, dispatch .host w = .ok i ∧ hostOperation i = true ∧ i.wellFormed = true ∧ encode i = w ∧
      ∀ j, encode j = w → j = i) ∨
  (∃ cause, dispatch .host w = .error cause ∧ ∀ i, hostOperation i = true → i.wellFormed = true → encode i ≠ w)

/-- R97, R256: every word of the tick port is applied as its TICK, every word of the timebase port as PWM_LOAD; none is
rejected, masked or deferred. -/
def Obligations.TickAndTimebaseWordsAlwaysRun : Prop := ∀ (s : State) (rest : List Input),
  s.resetPending = false →
  (∀ v c, s.pending = .tick v c :: rest → step s = exec (.tick v c) { s with pending := rest }) ∧
  (s.pending = .timebase :: rest → step s = exec .pwmLoad { s with pending := rest })

/-- A step runs the decoded instruction: when the next word decodes to a well-formed instruction of its own port, the
step is that instruction's meaning on the state with the word taken off (R100, 20_memory.md R74). -/
def Obligations.StepRunsTheDecodedInstruction : Prop := ∀ (s : State) (x : Input) (rest : List Input) (i : Instr),
  s.resetPending = false → s.pending = x :: rest →
  decode x.word = .ok i → i.wellFormed = true → i.port = x.port →
  step s = exec i { s with pending := rest }

/-- A step with a word waiting takes exactly that word off, whether it is an operation or is rejected (20_memory.md
R74), and keeps the others in their order; the list of waiting words is the model's, notes/assumptions/2.md. -/
def Obligations.StepTakesExactlyOneWord : Prop := ∀ (s t : State) (x : Input) (rest : List Input),
  s.resetPending = false → s.pending = x :: rest → step s = .next t → t.pending = rest ∧ t.resetPending = false

/-- The block is passive: with no word waiting and no reset asked for, a step changes nothing (00_scope.md R6; the model's
choice of what such a step is, notes/assumptions/2.md). -/
def Obligations.IdleBlockDoesNotMove : Prop := ∀ s : State,
  s.resetPending = false → s.pending = [] → step s = .next s

/-- R74, R76: the words of one cycle are applied tick first, then the timebase, then the host, whichever two or three
ports they arrive at, and whether the host's word is an operation or is rejected. So a duty that a closing TICK writes is
in force after that cycle's PWM_LOAD (92_eei_decisions.md D26), and a READ of the same cycle sees both. (How a cycle's
words join those that wait is the model's choice, notes/assumptions/10.md.) -/
def Obligations.SameCycleWordsApplyInPortOrder : Prop := ∀ (s : State) (v c : Sample) (w : Word),
  s.resetPending = false → s.pending = [] →
  let loaded (t : State) (rest : List Input) := { t with pending := rest, dutyActive := t.dutyShadow }
  let hostWordIsLast (u : State) := u.pending = [.host w] ∧
    (∀ i, dispatch .host w = .ok i → step u = exec i { u with pending := [] }) ∧
    (∀ cause, dispatch .host w = .error cause →
      step u = .next { u with pending := [], responses := u.responses ++ [⟨false, causeCode cause⟩] })
  (∃ t, step (s.arrive ⟨some (v, c), true, some w⟩) = .next t ∧
    exec (.tick v c) { s with pending := [.timebase, .host w] } = .next t ∧
    step t = .next (loaded t [.host w]) ∧ hostWordIsLast (loaded t [.host w])) ∧
  (∃ t, step (s.arrive ⟨some (v, c), true, none⟩) = .next t ∧
    exec (.tick v c) { s with pending := [.timebase] } = .next t ∧ step t = .next (loaded t [])) ∧
  (∃ t, step (s.arrive ⟨some (v, c), false, some w⟩) = .next t ∧
    exec (.tick v c) { s with pending := [.host w] } = .next t ∧ hostWordIsLast t) ∧
  (step (s.arrive ⟨none, true, some w⟩) = .next (loaded s [.host w]) ∧ hostWordIsLast (loaded s [.host w]))

/-! ### Reset and configuration -/

/-- R280, R281: a reset asked for takes effect before the next operation: every field takes its reset value, the trace
and the responses are empty, and the words not yet applied are gone. The values are those of 10_state.md R33–R46. (That a
reset empties the responses and the words of all ports is the model's choice, notes/assumptions/3.md.) -/
def Obligations.ResetGivesEveryFieldItsResetValue : Prop := ∀ s : State, s.resetPending = true →
  step s = .next {
    running := false, mode := .cc, secFlag := false, activeCell := 0,
    kp := s.cfg.params.kpCC, ki := s.cfg.params.kiCC, kd := s.cfg.params.kdCC,
    errorAcc := 0, dutyAcc := F32.ofInt s.cfg.params.dcMin,
    lastError := F32.clamp 0 s.cfg.params.errMin s.cfg.params.errMax,
    iRef := 0, vRef := 0, countdown := 1024, seconds := 0,
    iAcc := 0, vAcc := 0, iAvg := 0, vAvg := 0,
    dutyShadow := BitVec.ofNat 9 s.cfg.params.dcMin, dutyActive := BitVec.ofNat 9 s.cfg.params.dcMin,
    out := [], responses := [], pending := [], resetPending := false, cfg := s.cfg }

/-- R282: the output levels right after reset; R47, R36: what the cell relay levels are in every state, so that after
START cell 1's level is on and the other three are off, and after STOP all four are off. -/
def Obligations.OutputsRightAfterReset : Prop :=
  (∀ c : Config,
    (State.powerOn c).pwmDuty.toNat = c.params.dcMin ∧
    (State.powerOn c).activeCell = 0 ∧
    (∀ k, 1 ≤ k → k ≤ 4 → (State.powerOn c).cellLevel k = false) ∧
    (State.powerOn c).secIrq = false) ∧
  (∀ (s : State) (k : Nat), 1 ≤ k → k ≤ 4 → (s.cellLevel k = true ↔ s.activeCell.val = k)) ∧
  (∀ s t : State, exec .start s = .next t →
    t.cellLevel 1 = true ∧ t.cellLevel 2 = false ∧ t.cellLevel 3 = false ∧ t.cellLevel 4 = false) ∧
  (∀ s t : State, exec .stop s = .next t → ∀ k, 1 ≤ k → k ≤ 4 → t.cellLevel k = false)

/-- R49's reset column: what READ answers after reset, index by index. -/
def Obligations.ReadValuesRightAfterReset : Prop := ∀ c : Config,
  let r := State.powerOn c
  let p := c.params
  r.regval 0x00 = some 0 ∧ r.regval 0x01 = some 0 ∧ r.regval 0x02 = some 0 ∧ r.regval 0x03 = some 0 ∧
  r.regval 0x04 = some 0 ∧ r.regval 0x05 = some 0 ∧ r.regval 0x06 = some 0 ∧ r.regval 0x07 = some 0x400 ∧
  r.regval 0x08 = some 0 ∧ r.regval 0x09 = some (F32.ofInt p.dcMin) ∧ r.regval 0x0A = some 0 ∧
  r.regval 0x0B = some (F32.clamp 0 p.errMin p.errMax) ∧
  r.regval 0x0C = some p.kpCC ∧ r.regval 0x0D = some p.kiCC ∧ r.regval 0x0E = some p.kdCC ∧
  (∃ d, r.regval 0x0F = some d ∧ d.toNat = p.dcMin) ∧ (∃ d, r.regval 0x10 = some d ∧ d.toNat = p.dcMin)

/-- R8: exactly the parameters that meet the constraints make a configuration; there is no machine for the others. -/
def Obligations.ConfigurationBreakingAConstraintIsRefused : Prop := ∀ p : Parameters,
  ((∃ c, Config.ofParameters p = some c) ↔
    p.dcMin ≤ p.dcMax ∧ p.dcMax ≤ 511 ∧
    F32.isFinite p.errMin = true ∧ F32.isFinite p.errMax = true ∧ F32.value p.errMin ≤ F32.value p.errMax ∧
    F32.isFinite p.kpCC = true ∧ F32.isFinite p.kiCC = true ∧ F32.isFinite p.kdCC = true ∧
    F32.isFinite p.kpCV = true ∧ F32.isFinite p.kiCV = true ∧ F32.isFinite p.kdCV = true) ∧
  (∀ c, Config.ofParameters p = some c → c.params = p)

/-- R8, R32: no step writes the configuration, a reset included. -/
def Obligations.NoStepWritesTheConfiguration : Prop := ∀ s t : State, step s = .next t → t.cfg = s.cfg

/-! ### Binary32 -/

/-- R14: the sum of two finite data is the exact sum, rounded once to nearest, ties to even, an infinity on overflow; a
nonzero exact sum gives its own sign, a zero one `−0.0` only from two negative operands (IEEE-754's meaning, which the
spec presumes: notes/assumptions/7.md). -/
def Obligations.SumIsRoundedToNearestEven : Prop := ∀ a b : F32,
  F32.isFinite a = true → F32.isFinite b = true →
  correctlyRounded (F32.value a + F32.value b) 0 (F32.add a b) ∧
  (F32.value a + F32.value b ≠ 0 → F32.sign (F32.add a b) = decide (F32.value a + F32.value b < 0)) ∧
  (F32.value a + F32.value b = 0 → F32.sign (F32.add a b) = (F32.sign a && F32.sign b)) ∧
  F32.sub a b = F32.add a (F32.neg b) ∧ F32.value (F32.neg b) = -F32.value b

/-- R14: the product of two finite data is the exact product, rounded once to nearest, ties to even, an infinity on
overflow; its sign is negative exactly if one operand's is (IEEE-754's meaning, which the spec presumes:
notes/assumptions/7.md). -/
def Obligations.ProductIsRoundedToNearestEven : Prop := ∀ a b : F32,
  F32.isFinite a = true → F32.isFinite b = true →
  correctlyRounded (F32.value a * F32.value b) 149 (F32.mul a b) ∧
  F32.sign (F32.mul a b) = (F32.sign a != F32.sign b)

/-- R14: every NaN an operation produces is the canonical one, from a NaN operand or from an invalid operation, and the
infinities give IEEE-754's default results: on either side of a sum or a product, with a finite operand or another
infinity (notes/assumptions/7.md). A difference is the sum with the second operand's sign changed. -/
def Obligations.NaNResultsAreCanonical : Prop := ∀ a b : F32,
  (F32.isNaN a = true ∨ F32.isNaN b = true →
    F32.add a b = 0x7FC00000 ∧ F32.sub a b = 0x7FC00000 ∧ F32.mul a b = 0x7FC00000) ∧
  (F32.isNaN (F32.add a b) = true → F32.add a b = 0x7FC00000) ∧
  (F32.isNaN (F32.sub a b) = true → F32.sub a b = 0x7FC00000) ∧
  (F32.isNaN (F32.mul a b) = true → F32.mul a b = 0x7FC00000) ∧
  F32.add 0x7F800000 0xFF800000 = 0x7FC00000 ∧ F32.add 0xFF800000 0x7F800000 = 0x7FC00000 ∧
  F32.add 0x7F800000 0x7F800000 = 0x7F800000 ∧ F32.add 0xFF800000 0xFF800000 = 0xFF800000 ∧
  (F32.isFinite a = true →
    F32.add 0x7F800000 a = 0x7F800000 ∧ F32.add a 0x7F800000 = 0x7F800000 ∧
    F32.add 0xFF800000 a = 0xFF800000 ∧ F32.add a 0xFF800000 = 0xFF800000) ∧
  F32.sub a b = F32.add a (F32.neg b) ∧ F32.neg 0x7F800000 = 0xFF800000 ∧ F32.neg 0xFF800000 = 0x7F800000 ∧
  (F32.isInf a = true → F32.isFinite b = true → F32.value b = 0 →
    F32.mul a b = 0x7FC00000 ∧ F32.mul b a = 0x7FC00000) ∧
  (F32.isInf a = true → F32.isInf b = true ∨ F32.isFinite b = true ∧ F32.value b ≠ 0 →
    F32.mul a b = F32.pack (F32.sign a != F32.sign b) 0x7F800000 ∧
    F32.mul b a = F32.pack (F32.sign a != F32.sign b) 0x7F800000)

/-- R14: `f32(n)` is exact for every integer the rules convert. -/
def Obligations.SmallIntegersConvertExactly : Prop := ∀ n : Int, n.natAbs < 2 ^ 24 →
  F32.isFinite (F32.ofInt n) = true ∧ F32.value (F32.ofInt n) = n * 2 ^ 149

/-- R14: `flt` is "less than" on the values, the infinities at the ends, and false when either operand is a NaN. -/
def Obligations.LessThanComparesValues : Prop := ∀ a b : F32,
  (F32.isNaN a = true ∨ F32.isNaN b = true → F32.lt a b = false) ∧
  (F32.isFinite a = true → F32.isFinite b = true → F32.lt a b = decide (F32.value a < F32.value b)) ∧
  (F32.isFinite a = true → F32.lt a 0x7F800000 = true ∧ F32.lt 0x7F800000 a = false ∧
    F32.lt 0xFF800000 a = true ∧ F32.lt a 0xFF800000 = false)

/-- R15: what `clamp` gives for finite bounds: the low bound for a NaN and below it, the high bound above it, and
anything inside as it stands, `−0.0` included; an infinity is clamped like any other value. -/
def Obligations.ClampGivesAValueInRange : Prop := ∀ x lo hi : F32,
  F32.isFinite lo = true → F32.isFinite hi = true → F32.value lo ≤ F32.value hi →
  (F32.isNaN x = true → F32.clamp x lo hi = lo) ∧
  (F32.isFinite x = true → F32.value x < F32.value lo → F32.clamp x lo hi = lo) ∧
  (F32.isFinite x = true → F32.value hi < F32.value x → F32.clamp x lo hi = hi) ∧
  (F32.isFinite x = true → F32.value lo ≤ F32.value x → F32.value x ≤ F32.value hi → F32.clamp x lo hi = x) ∧
  F32.clamp 0xFF800000 lo hi = lo ∧ F32.clamp 0x7F800000 lo hi = hi ∧
  F32.isFinite (F32.clamp x lo hi) = true ∧
  F32.value lo ≤ F32.value (F32.clamp x lo hi) ∧ F32.value (F32.clamp x lo hi) ≤ F32.value hi

/-- R16: for an `x` between f32(DC_MIN) and f32(DC_MAX), `trunc9` is its integer part and lies between DC_MIN and
DC_MAX. -/
def Obligations.TruncationIsTheIntegerPartInRange : Prop := ∀ (c : Config) (x : F32),
  F32.le (F32.ofInt c.params.dcMin) x = true → F32.le x (F32.ofInt c.params.dcMax) = true →
  ((F32.trunc9 x).toNat : Int) * 2 ^ 149 ≤ F32.value x ∧ F32.value x < ((F32.trunc9 x).toNat + 1 : Int) * 2 ^ 149 ∧
  c.params.dcMin ≤ (F32.trunc9 x).toNat ∧ (F32.trunc9 x).toNat ≤ c.params.dcMax

/-! ### The tick and the window -/

/-- R120–R122: a TICK that does not close the window adds the samples and counts down, and changes nothing else. (In
states that R50 excludes, a countdown of 0 stepping to 2047 and a sum wrapping modulo 2^22 are the model's choice,
notes/assumptions/6.md; in the others TickSumsAreExact says that neither happens.) -/
def Obligations.TickInsideAWindow : Prop := ∀ (v c : Sample) (s : State), s.countdown ≠ 1 →
  exec (.tick v c) s = .next { s with
    vAcc := s.vAcc + v.setWidth 22, iAcc := s.iAcc + c.setWidth 22, countdown := s.countdown - 1 }

/-- R121, R122, R124: between any two operations the sums a TICK makes are exact in 22 bits, those of a closing TICK
too, and never above 1024 × 4095. A TICK inside a window leaves them in the accumulators and steps the countdown down by
one without passing below 1; a closing TICK leaves their rounded averages, uncut by the 12 bits, and a fresh window. -/
def Obligations.TickSumsAreExact : Prop := ∀ (v c : Sample) (s : State), s.Inv →
  let sumV := s.vAcc.toNat + v.toNat
  let sumI := s.iAcc.toNat + c.toNat
  sumV ≤ 1024 * 4095 ∧ sumI ≤ 1024 * 4095 ∧
  (s.vAcc + v.setWidth 22).toNat = sumV ∧ (s.iAcc + c.setWidth 22).toNat = sumI ∧
  (s.countdown ≠ 1 → ∃ t, exec (.tick v c) s = .next t ∧
    t.vAcc.toNat = sumV ∧ t.iAcc.toNat = sumI ∧
    t.countdown.toNat + 1 = s.countdown.toNat ∧ 1 ≤ t.countdown.toNat) ∧
  (s.countdown = 1 → ∃ t, exec (.tick v c) s = .next t ∧
    t.vAvg.toNat = sumV / 2 ^ 10 + sumV / 2 ^ 9 % 2 ∧ t.iAvg.toNat = sumI / 2 ^ 10 + sumI / 2 ^ 9 % 2 ∧
    t.vAcc = 0 ∧ t.iAcc = 0 ∧ t.countdown = 1024)

/-- R123–R127: a TICK that closes the window while stopped writes the averages of the sums it completes, opens a fresh
window, counts the second, sets the flag, and changes nothing else. (In states that R50 excludes, a sum wrapping modulo
2^22 and an average cut to 12 bits are the model's choice, notes/assumptions/6.md; in the others TickSumsAreExact says
that neither happens.) -/
def Obligations.TickClosesAWindowWhileStopped : Prop := ∀ (v c : Sample) (s : State),
  s.countdown = 1 → s.running = false →
  let sumV := (s.vAcc + v.setWidth 22).toNat
  let sumI := (s.iAcc + c.setWidth 22).toNat
  exec (.tick v c) s = .next { s with
    vAvg := BitVec.ofNat 12 (sumV / 2 ^ 10 + sumV / 2 ^ 9 % 2),
    iAvg := BitVec.ofNat 12 (sumI / 2 ^ 10 + sumI / 2 ^ 9 % 2),
    vAcc := 0, iAcc := 0, countdown := 1024, seconds := s.seconds + 1, secFlag := true }

/-- R123–R127, R150, R151, R181–R183, R240: a TICK that closes the window while running does the same and then one
control cycle: the crossover test on the fresh average, the pair of the mode that results, the five steps of the law
with the gains that result, and the duty write. Nothing else changes. (In states that R50 excludes, a sum wrapping modulo
2^22 and an average cut to 12 bits are the model's choice, notes/assumptions/6.md; in the others TickSumsAreExact says
that neither happens.) -/
def Obligations.TickClosesAWindowWhileRunning : Prop := ∀ (v c : Sample) (s : State),
  s.countdown = 1 → s.running = true →
  let sumV := (s.vAcc + v.setWidth 22).toNat
  let sumI := (s.iAcc + c.setWidth 22).toNat
  let vAvg : Sample := BitVec.ofNat 12 (sumV / 2 ^ 10 + sumV / 2 ^ 9 % 2)
  let iAvg : Sample := BitVec.ofNat 12 (sumI / 2 ^ 10 + sumI / 2 ^ 9 % 2)
  let crosses : Bool := decide (s.mode = .cc ∧ s.vRef.toNat < vAvg.toNat)
  let mode : Mode := if crosses then .cv else s.mode
  let kp := if crosses then s.cfg.params.kpCV else s.kp
  let ki := if crosses then s.cfg.params.kiCV else s.ki
  let kd := if crosses then s.cfg.params.kdCV else s.kd
  let integral := if crosses then 0 else s.errorAcc
  let fb := if mode = .cc then iAvg else vAvg
  let sp := if mode = .cc then s.iRef else s.vRef
  let e := F32.sub (F32.ofInt sp.toNat) (F32.ofInt fb.toNat)
  let duty₁ := F32.add s.dutyAcc (F32.mul kd (F32.sub e s.lastError))
  let last := F32.clamp e s.cfg.params.errMin s.cfg.params.errMax
  let integral' := F32.add integral (F32.mul ki last)
  let duty₄ := F32.add duty₁ (F32.add (F32.mul last kp) integral')
  let duty := F32.clamp duty₄ (F32.ofInt s.cfg.params.dcMin) (F32.ofInt s.cfg.params.dcMax)
  exec (.tick v c) s = .next { s with
    vAvg := vAvg, iAvg := iAvg, vAcc := 0, iAcc := 0, countdown := 1024, seconds := s.seconds + 1, secFlag := true,
    mode := mode, kp := kp, ki := ki, kd := kd,
    lastError := last, errorAcc := integral', dutyAcc := duty,
    dutyShadow := F32.trunc9 duty, out := s.out ++ [.setDuty (F32.trunc9 duty)] }

/-- R124: the average of a sum a window can hold is S / 1024 rounded to nearest, ties upward, and fits 12 bits. -/
def Obligations.AverageRoundsToNearest : Prop := ∀ acc : Accumulator, acc.toNat ≤ 1024 * 4095 →
  (average acc).toNat = (acc.toNat >>> 10) + ((acc.toNat >>> 9) &&& 1) ∧
  (average acc).toNat = (2 * acc.toNat + 1024) / 2048 ∧ (average acc).toNat ≤ 4095

/-- R42, R50 item 4: short of a full window, any run of TICKs from a fresh window leaves their exact sums and the number
of samples left, and changes nothing else. -/
def Obligations.OpenWindowHoldsTheSumOfItsSamples : Prop := ∀ (s : State) (samples : List (Sample × Sample)),
  s.countdown = 1024 → s.vAcc = 0 → s.iAcc = 0 → samples.length < 1024 →
  ∃ t, execAll (tickList samples) s = .next t ∧
    t.vAcc.toNat = voltageSum samples ∧ t.iAcc.toNat = currentSum samples ∧
    t.countdown.toNat + samples.length = 1024 ∧
    t = { s with vAcc := t.vAcc, iAcc := t.iAcc, countdown := t.countdown }

/-- R122–R128: from a fresh window, as reset and START leave it, the 1024th TICK closes the window; the averages are
those of exactly the 1024 samples, whatever ran before, and the next window is fresh. While stopped nothing of the
controller changes: both accumulators, the last error, the gains, the mode, the duty codes and the trace stay. -/
def Obligations.FullWindowAveragesItsSamples : Prop := ∀ (s : State) (samples : List (Sample × Sample)),
  s.countdown = 1024 → s.vAcc = 0 → s.iAcc = 0 → samples.length = 1024 →
  ∃ t, execAll (tickList samples) s = .next t ∧
    t.vAvg.toNat = voltageSum samples / 1024 + voltageSum samples / 512 % 2 ∧
    t.iAvg.toNat = currentSum samples / 1024 + currentSum samples / 512 % 2 ∧
    t.countdown = 1024 ∧ t.vAcc = 0 ∧ t.iAcc = 0 ∧ t.seconds = s.seconds + 1 ∧ t.secFlag = true ∧
    t.running = s.running ∧ t.dutyActive = s.dutyActive ∧ t.responses = s.responses ∧
    t.iRef = s.iRef ∧ t.vRef = s.vRef ∧ t.activeCell = s.activeCell ∧
    (s.running = false →
      t.dutyAcc = s.dutyAcc ∧ t.errorAcc = s.errorAcc ∧ t.lastError = s.lastError ∧
      t.kp = s.kp ∧ t.ki = s.ki ∧ t.kd = s.kd ∧
      t.dutyShadow = s.dutyShadow ∧ t.mode = s.mode ∧ t.out = s.out) ∧
    (s.running = true → t.out = s.out ++ [.setDuty t.dutyShadow])

/-- R43, R125, R126, R287: `seconds` steps by one exactly at a window close and is otherwise written by START alone; a
close sets `secFlag`, nothing but CLR_SEC clears it, and nothing but a close sets it. -/
def Obligations.SecondsAndFlagFollowWindowCloses : Prop := ∀ (i : Instr) (s t : State), exec i s = .next t →
  (closesWindow i s → t.seconds = s.seconds + 1 ∧ t.secFlag = true) ∧
  (¬ closesWindow i s → i ≠ .start → t.seconds = s.seconds) ∧
  (i = .start → t.seconds = 0) ∧
  (¬ closesWindow i s → i ≠ .clrSec → t.secFlag = s.secFlag) ∧
  (i = .clrSec → t.secFlag = false)

/-! ### The control cycle -/

/-- R152: setpoint minus feedback is exact: finite, and the very integer, for all 12-bit operands. -/
def Obligations.ControlErrorIsExact : Prop := ∀ fb sp : Sample,
  controlError fb sp = F32.ofInt ((sp.toNat : Int) - fb.toNat) ∧
  F32.isFinite (controlError fb sp) = true ∧
  F32.value (controlError fb sp) = ((sp.toNat : Int) - fb.toNat) * 2 ^ 149

/-- The source's properties, kept by R15 and R156: for every state, every feedback and setpoint and every configuration,
a PI compute leaves the duty accumulator in [DC_MIN, DC_MAX] and a finite last error in [ERR_MIN, ERR_MAX]. -/
def Obligations.ControllerOutputIsAlwaysInRange : Prop := ∀ (fb sp : Sample) (s : State),
  let t := s.piCompute fb sp
  F32.isFinite t.dutyAcc = true ∧
  (s.cfg.params.dcMin : Int) * 2 ^ 149 ≤ F32.value t.dutyAcc ∧
  F32.value t.dutyAcc ≤ (s.cfg.params.dcMax : Int) * 2 ^ 149 ∧
  F32.isFinite t.lastError = true ∧
  F32.value s.cfg.params.errMin ≤ F32.value t.lastError ∧ F32.value t.lastError ≤ F32.value s.cfg.params.errMax

/-- R156 item 3: while the integral is a NaN it stays one, the canonical one, and the duty is f32(DC_MIN). -/
def Obligations.NaNIntegralHoldsTheDutyAtMinimum : Prop := ∀ (fb sp : Sample) (s : State),
  F32.isNaN s.errorAcc = true →
  (s.piCompute fb sp).errorAcc = 0x7FC00000 ∧ (s.piCompute fb sp).dutyAcc = F32.ofInt s.cfg.params.dcMin

/-- R155 items 1 and 2: at zero error with a zero last error the duty still moves by the integral, up to the clamp, and
the integral keeps its value while the clamp acts. (The zeros that IEEE-754 addition would turn from `−0.0` to `+0.0` are
left out: the rule speaks of values.) -/
def Obligations.DutyDriftsByTheIntegralAtZeroError : Prop := ∀ (x : Sample) (s : State), s.Inv →
  s.lastError = 0 → F32.value s.cfg.params.errMin ≤ 0 → 0 ≤ F32.value s.cfg.params.errMax →
  s.dutyAcc ≠ 0x80000000 → s.errorAcc ≠ 0x80000000 →
  (s.piCompute x x).dutyAcc =
    F32.clamp (F32.add s.dutyAcc s.errorAcc) (F32.ofInt s.cfg.params.dcMin) (F32.ofInt s.cfg.params.dcMax) ∧
  (s.piCompute x x).errorAcc = s.errorAcc ∧ (s.piCompute x x).lastError = 0

/-- R182: the crossover enters CV, clears the integral and loads the CV gains; the duty accumulator, the last error and
everything else stay. -/
def Obligations.CrossoverEffect : Prop := ∀ s : State,
  s.crossover = { s with
    mode := .cv, errorAcc := 0, kp := s.cfg.params.kpCV, ki := s.cfg.params.kiCV, kd := s.cfg.params.kdCV }

/-- R183: the pair is that of the present mode, and a control cycle selects it after the mode evaluation, so that it
sees a crossover of the same cycle. -/
def Obligations.PairIsSelectedByTheModeAfterCrossover : Prop := ∀ s : State,
  (s.mode = .cc → s.select = (s.iAvg, s.iRef)) ∧ (s.mode = .cv → s.select = (s.vAvg, s.vRef)) ∧
  (s.mode = .cc → s.vRef.toNat < s.vAvg.toNat → s.regulate = s.crossover.piCompute s.vAvg s.vRef) ∧
  (s.mode = .cc → s.vAvg.toNat ≤ s.vRef.toNat → s.regulate = s.piCompute s.iAvg s.iRef) ∧
  (s.mode = .cv → s.regulate = s.piCompute s.vAvg s.vRef)

/-- R187, R181: in CC a TICK crosses over exactly if it closes a window while running and the fresh average exceeds the
reference; a stale average never decides. -/
def Obligations.CrossoverFiresOnTheFreshAverage : Prop := ∀ (v c : Sample) (s t : State),
  exec (.tick v c) s = .next t → s.mode = .cc →
  (t.mode = .cv ↔ s.countdown = 1 ∧ s.running = true ∧ s.vRef.toNat < t.vAvg.toNat)

/-! ### Host commands, start and stop, the duty register -/

/-- R200, R184: SET_IREF writes the current reference and enters CC; from CV it clears the integral and loads the CC
gains, from CC nothing more. It completes in every state. -/
def Obligations.SetIrefResult : Prop := ∀ (ref : Sample) (s : State),
  (s.mode = .cc → exec (.setIref ref) s = .next { s with
    iRef := ref, responses := s.responses ++ [⟨true, 0⟩] }) ∧
  (s.mode = .cv → exec (.setIref ref) s = .next { s with
    iRef := ref, mode := .cc, errorAcc := 0,
    kp := s.cfg.params.kpCC, ki := s.cfg.params.kiCC, kd := s.cfg.params.kdCC,
    responses := s.responses ++ [⟨true, 0⟩] })

/-- R201, R184: SET_VREF writes the voltage reference and enters CV; from CC it clears the integral and loads the CV
gains, from CV nothing more. It completes in every state. -/
def Obligations.SetVrefResult : Prop := ∀ (ref : Sample) (s : State),
  (s.mode = .cv → exec (.setVref ref) s = .next { s with
    vRef := ref, responses := s.responses ++ [⟨true, 0⟩] }) ∧
  (s.mode = .cc → exec (.setVref ref) s = .next { s with
    vRef := ref, mode := .cv, errorAcc := 0,
    kp := s.cfg.params.kpCV, ki := s.cfg.params.kiCV, kd := s.cfg.params.kdCV,
    responses := s.responses ++ [⟨true, 0⟩] })

/-- R202: CLR_SEC clears the one-second flag, so that the `sec_irq` level falls, and changes nothing else; R47, R255: in
every state the level is the flag. -/
def Obligations.ClrSecResult : Prop := ∀ s : State,
  exec .clrSec s = .next { s with secFlag := false, responses := s.responses ++ [⟨true, 0⟩] } ∧
  ({ s with secFlag := false } : State).secIrq = false ∧ s.secIrq = s.secFlag

/-- R203, R49: READ answers with the register's word, bits not listed 0, and changes nothing else; an unassigned index is
rejected with cause 3. It completes in every state. -/
def Obligations.ReadResult : Prop := ∀ s : State,
  let answers (idx : Byte) (data : Word) :=
    exec (.read idx) s = .next { s with responses := s.responses ++ [⟨true, data⟩] }
  (∃ status : Word, answers 0x00 status ∧
    status.toNat = s.running.toNat + 2 * (if s.mode = .cv then 1 else 0) + 4 * s.secFlag.toNat
      + 16 * s.activeCell.val) ∧
  answers 0x01 (BitVec.ofNat 32 s.iRef.toNat) ∧ answers 0x02 (BitVec.ofNat 32 s.vRef.toNat) ∧
  answers 0x03 (BitVec.ofNat 32 s.iAvg.toNat) ∧ answers 0x04 (BitVec.ofNat 32 s.vAvg.toNat) ∧
  answers 0x05 (BitVec.ofNat 32 s.iAcc.toNat) ∧ answers 0x06 (BitVec.ofNat 32 s.vAcc.toNat) ∧
  answers 0x07 (BitVec.ofNat 32 s.countdown.toNat) ∧ answers 0x08 s.seconds ∧
  answers 0x09 s.dutyAcc ∧ answers 0x0A s.errorAcc ∧ answers 0x0B s.lastError ∧
  answers 0x0C s.kp ∧ answers 0x0D s.ki ∧ answers 0x0E s.kd ∧
  answers 0x0F (BitVec.ofNat 32 s.dutyShadow.toNat) ∧ answers 0x10 (BitVec.ofNat 32 s.dutyActive.toNat) ∧
  (∀ idx : Byte, 0x11 ≤ idx.toNat →
    exec (.read idx) s = .next { s with responses := s.responses ++ [⟨false, 3⟩] })

/-- R220: START, running or not: exactly these fields change, to exactly these values, with these events in this order.
It completes in every state. -/
def Obligations.StartResult : Prop := ∀ s : State,
  exec .start s = .next { s with
    activeCell := 1, mode := .cc, kp := s.cfg.params.kpCC, ki := s.cfg.params.kiCC, kd := s.cfg.params.kdCC,
    errorAcc := 0, dutyAcc := F32.ofInt s.cfg.params.dcMin, dutyShadow := BitVec.ofNat 9 s.cfg.params.dcMin,
    seconds := 0, vAcc := 0, iAcc := 0, countdown := 1024, running := true,
    out := s.out ++ [.setDuty (BitVec.ofNat 9 s.cfg.params.dcMin), .setRelay .cell1 true],
    responses := s.responses ++ [⟨true, 0⟩] }

/-- R221: STOP, running or not: exactly these fields change, to exactly these values, with these seven events in this
order. It completes in every state. -/
def Obligations.StopResult : Prop := ∀ s : State,
  exec .stop s = .next { s with
    running := false, dutyAcc := F32.ofInt s.cfg.params.dcMin, dutyShadow := BitVec.ofNat 9 s.cfg.params.dcMin,
    activeCell := 0,
    out := s.out ++ [.setRelay .charge false, .setRelay .discharge false,
      .setDuty (BitVec.ofNat 9 s.cfg.params.dcMin), .setRelay .cell1 false, .setRelay .cell2 false,
      .setRelay .cell3 false, .setRelay .cell4 false],
    responses := s.responses ++ [⟨true, 0⟩] }

/-- R241, R242: PWM_LOAD copies the shadow to the active code and changes nothing else. It completes in every state. R47,
R242: in every state the `pwm_duty` level is the active code, never the shadow. -/
def Obligations.PwmLoadResult : Prop := ∀ s : State,
  exec .pwmLoad s = .next { s with dutyActive := s.dutyShadow } ∧
  ({ s with dutyActive := s.dutyShadow } : State).pwmDuty = s.dutyShadow ∧ s.pwmDuty = s.dutyActive

/-- R289, R221: after a STOP, whatever operations other than START follow, the converter stays stopped with its duty
command at DC_MIN, and the PWM output is at DC_MIN from the next PWM_LOAD on. -/
def Obligations.StoppedDutyStaysAtMinimum : Prop := ∀ (s t u : State) (ops : List Instr),
  exec .stop s = .next t → (∀ i ∈ ops, i ≠ .start) → execAll ops t = .next u →
  u.running = false ∧ u.activeCell = 0 ∧ u.dutyAcc = F32.ofInt s.cfg.params.dcMin ∧
  u.dutyShadow.toNat = s.cfg.params.dcMin ∧
  (.pwmLoad ∈ ops → u.pwmDuty.toNat = s.cfg.params.dcMin)

/-! ### The whole machine -/

/-- R250: no operation leaves the block stuck and no state is final: every operation and every step completes in every
state. -/
def Obligations.NothingStopsTheBlock : Prop :=
  (∀ (i : Instr) (s : State), ∃ t, exec i s = .next t) ∧ (∀ s : State, ∃ t, step s = .next t)

/-- R101: a host word gets exactly one response: `(1, the READ value)` for READ, `(1, 0)` for another operation, `(0,
cause code)` on rejection. A word of another port gets none. -/
def Obligations.EveryHostWordGetsOneResponse : Prop := ∀ (s t : State) (x : Input) (rest : List Input),
  s.resetPending = false → s.pending = x :: rest → step s = .next t →
  (∀ w, x = .host w → ∃ r : Response, t.responses = s.responses ++ [r] ∧
    ((∃ cause, dispatch .host w = .error cause ∧ r.ok = false ∧ r.data = causeCode cause) ∨
     (∃ i, dispatch .host w = .ok i ∧ r.ok = true ∧
       (∀ idx, i = .read idx → s.regval idx = some r.data) ∧ ((∀ idx, i ≠ .read idx) → r.data = 0)))) ∧
  ((∀ w, x ≠ .host w) → t.responses = s.responses)

/-- R52: a field not marked for an operation is unchanged by it. `closesWindow` is the table's `TICK(close)`; a close
changes the mode only from CC to CV. -/
def Obligations.OnlyMarkedOperationsWriteAField : Prop := ∀ (i : Instr) (s t : State), exec i s = .next t →
  let isTick := ∃ v c, i = .tick v c
  let isIref := ∃ r, i = .setIref r
  let isVref := ∃ r, i = .setVref r
  (t.running ≠ s.running → i = .start ∨ i = .stop) ∧
  (t.mode ≠ s.mode → closesWindow i s ∧ s.mode = .cc ∧ t.mode = .cv ∨ i = .start ∨ isIref ∨ isVref) ∧
  (t.secFlag ≠ s.secFlag → closesWindow i s ∨ i = .clrSec) ∧
  (t.activeCell ≠ s.activeCell → i = .start ∨ i = .stop) ∧
  ((t.kp, t.ki, t.kd) ≠ (s.kp, s.ki, s.kd) → closesWindow i s ∨ i = .start ∨ isIref ∨ isVref) ∧
  (t.errorAcc ≠ s.errorAcc → closesWindow i s ∨ i = .start ∨ isIref ∨ isVref) ∧
  (t.dutyAcc ≠ s.dutyAcc → closesWindow i s ∨ i = .start ∨ i = .stop) ∧
  (t.lastError ≠ s.lastError → closesWindow i s) ∧
  (t.iRef ≠ s.iRef → isIref) ∧ (t.vRef ≠ s.vRef → isVref) ∧
  (t.countdown ≠ s.countdown → isTick ∨ i = .start) ∧
  (t.seconds ≠ s.seconds → closesWindow i s ∨ i = .start) ∧
  ((t.iAcc, t.vAcc) ≠ (s.iAcc, s.vAcc) → isTick ∨ i = .start) ∧
  ((t.iAvg, t.vAvg) ≠ (s.iAvg, s.vAvg) → closesWindow i s) ∧
  (t.dutyShadow ≠ s.dutyShadow → closesWindow i s ∨ i = .start ∨ i = .stop) ∧
  (t.dutyActive ≠ s.dutyActive → i = .pwmLoad) ∧
  (t.out ≠ s.out → closesWindow i s ∨ i = .start ∨ i = .stop) ∧
  t.pending = s.pending ∧ t.resetPending = s.resetPending ∧ t.cfg = s.cfg

/-- R13, R240, R243: the trace only grows; a duty event carries the code the shadow then holds, and only START and STOP
emit relay events, of which only START's turns a relay on, and that relay is cell 1's. -/
def Obligations.TraceGrowsByWhatTheOperationEmits : Prop := ∀ (i : Instr) (s t : State), exec i s = .next t →
  ∃ events, t.out = s.out ++ events ∧
    (∀ v, Event.setDuty v ∈ events → v = t.dutyShadow) ∧
    (∀ which on, Event.setRelay which on ∈ events → i = .start ∧ which = .cell1 ∧ on = true ∨ i = .stop ∧ on = false) ∧
    (t.dutyShadow ≠ s.dutyShadow → Event.setDuty t.dutyShadow ∈ events)

/-- R186: no TICK takes the mode from CV to CC; once in CV only SET_IREF or START returns it to CC, whatever the
averages and references are. -/
def Obligations.OnlySetIrefOrStartLeavesCV : Prop := ∀ (i : Instr) (s t : State),
  exec i s = .next t → s.mode = .cv → t.mode = .cc → (∃ ref, i = .setIref ref) ∨ i = .start

/-- R186, R222: in a run of operations without START and SET_IREF the mode goes from CC to CV at most once and never
back: a CV state is followed by CV states only. -/
def Obligations.CVLastsUntilSetIrefOrStart : Prop := ∀ (before after : List Instr) (s t u : State),
  (∀ i ∈ before ++ after, i ≠ .start ∧ ∀ ref, i ≠ .setIref ref) →
  execAll before s = .next t → t.mode = .cv → execAll after t = .next u →
  execAll (before ++ after) s = .next u ∧ u.mode = .cv

/-- R37: the gains change only by loading a whole set, together with the mode it belongs to. -/
def Obligations.GainsAreSwappedWholesale : Prop := ∀ (i : Instr) (s t : State), exec i s = .next t →
  (t.kp, t.ki, t.kd) = (s.kp, s.ki, s.kd) ∨
  (t.mode = .cc ∧ (t.kp, t.ki, t.kd) = (s.cfg.params.kpCC, s.cfg.params.kiCC, s.cfg.params.kdCC)) ∨
  (t.mode = .cv ∧ (t.kp, t.ki, t.kd) = (s.cfg.params.kpCV, s.cfg.params.kiCV, s.cfg.params.kdCV))

/-- R78: every operation but TICK, applied twice, leaves the state it leaves applied once, up to the trace and the
responses; PWM_LOAD, READ, CLR_SEC and the setpoint writes add nothing to the trace either; TICK is not idempotent. -/
def Obligations.OperationsOtherThanTickAreIdempotent : Prop :=
  (∀ (i : Instr) (s t u : State), (∀ v c, i ≠ .tick v c) → exec i s = .next t → exec i t = .next u →
    { u with out := t.out, responses := t.responses } = t ∧ (i ≠ .start → i ≠ .stop → u.out = t.out)) ∧
  (∀ v c : Sample, ∃ s t u : State, exec (.tick v c) s = .next t ∧ exec (.tick v c) t = .next u ∧
    { u with out := t.out, responses := t.responses } ≠ t)

/-- R50: the machine right after reset meets the invariant, under every configuration. -/
def Obligations.InvariantHoldsAfterReset : Prop := (∀ c : Config, (State.powerOn c).Inv) ∧ State.reset.Inv

/-- R50: every step keeps the invariant, from every state that meets it: whatever word is next, well formed or not, and
whatever configuration the block has. -/
def Obligations.EveryStepKeepsTheInvariant : Prop := ∀ s t : State, s.Inv → step s = .next t → t.Inv

/-! ### The host side -/

/-- R111: the conversion is raw × 4096 / fs rounded to the nearest integer, where no tie can occur for either full
scale, and it saturates at 4095. -/
def Obligations.SetpointConversionRoundsAndSaturates : Prop := ∀ raw fs : Nat, fs = 5000 ∨ fs = 12500 →
  ((convert raw fs).toNat < 4095 →
    2 * (raw * 4096) < (2 * (convert raw fs).toNat + 1) * fs ∧ 2 * (convert raw fs).toNat * fs < 2 * (raw * 4096) + fs) ∧
  ((convert raw fs).toNat = 4095 ↔ (2 * 4095 - 1) * fs ≤ 2 * (raw * 4096)) ∧
  (∀ m : Nat, 2 * (raw * 4096) ≠ (2 * m + 1) * fs) ∧
  convertVoltage raw = convert raw 5000 ∧ convertCurrent raw = convert raw 12500

/-- R110: which line is which operation, by its first byte and its offset test; branches are exclusive, and a line that
matches none is a failure. (The newline byte and what follows the 20 bytes: notes/assumptions/11.md.) -/
def Obligations.LinesAreRecognizedByTheOffsetTable : Prop := ∀ (text : List Byte),
  text.length ≤ 20 → 0x0A ∉ text →
  let b (k : Nat) : Option Byte := text[k]?
  let setpoint (op : Sample → Instr) (conv : Nat → Sample) :=
    match lineValue text with
    | some raw => LineResult.operation (op (conv raw))
    | none     => LineResult.failure
  (b 0 = some 0x2A → recognize text = .identity) ∧
  (b 0 = some 0x4D → (b 5 = some 0x56 ∨ b 5 = some 0x49) → recognize text = .measHook) ∧
  (b 0 = some 0x4D → ¬ (b 5 = some 0x56 ∨ b 5 = some 0x49) → recognize text = .failure) ∧
  (b 0 = some 0x4F → b 7 = some 0x41 → recognize text = .operation .start) ∧
  (b 0 = some 0x4F → b 7 = some 0x4F → recognize text = .operation .stop) ∧
  (b 0 = some 0x4F → b 7 ≠ some 0x41 → b 7 ≠ some 0x4F → recognize text = .failure) ∧
  (b 0 = some 0x43 → b 4 = some 0x20 → recognize text = setpoint .setIref convertCurrent) ∧
  (b 0 = some 0x43 → b 4 = some 0x3A → recognize text = .currentProtection) ∧
  (b 0 = some 0x43 → b 4 ≠ some 0x20 → b 4 ≠ some 0x3A → recognize text = .failure) ∧
  (b 0 = some 0x56 → b 4 = some 0x20 → recognize text = setpoint .setVref convertVoltage) ∧
  (b 0 = some 0x56 → b 4 = some 0x3A → recognize text = .voltageProtection) ∧
  (b 0 = some 0x56 → b 4 ≠ some 0x20 → b 4 ≠ some 0x3A → recognize text = .failure) ∧
  (b 0 ∉ [some 0x2A, some 0x4D, some 0x4F, some 0x43, some 0x56] → recognize text = .failure) ∧
  (∀ tail, recognize (text ++ 0x0A :: tail) = recognize text) ∧
  (text.length = 20 → ∀ tail, recognize (text ++ tail) = recognize text)

/-- R112: the value of a line is the decimal number of the digits from b[5] on, up to the first byte that is no digit;
without a digit at b[5] there is none. -/
def Obligations.LineValueIsItsDecimalDigits : Prop := ∀ (head digits tail : List Byte),
  head.length = 5 → (∀ d ∈ digits, 0x30 ≤ d.toNat ∧ d.toNat ≤ 0x39) →
  (∀ b, tail.head? = some b → b.toNat < 0x30 ∨ 0x39 < b.toNat) →
  lineValue (head ++ digits ++ tail) =
    if digits = [] then none else some (digits.foldl (fun n d => 10 * n + (d.toNat - 0x30)) 0)
end

