-- ==== Sys2Proof/Laws/Float.lean ====
section
/-! SUPPORT. The small lemmas of the binary32 primitives: sign and magnitude pattern, the order of magnitude patterns
and of the values they stand for, and what one rounding can give. -/

namespace Sys2Proof.F32

/-! ### Sign and magnitude pattern -/

theorem mag_lt (a : F32) : mag a < 2 ^ 31 := Nat.mod_lt _ (by decide)

theorem sign_eq (a : F32) : sign a = decide (2 ^ 31 ≤ a.toNat) := by
  have h := a.isLt
  simp only [sign, BitVec.getLsbD, Nat.testBit_eq_decide_div_mod_eq]
  congr 1
  simp only [eq_iff_iff]
  omega

theorem toNat_eq (a : F32) : a.toNat = (if sign a then 2 ^ 31 else 0) + mag a := by
  have h := a.isLt
  simp only [sign_eq, mag, decide_eq_true_eq]
  split <;> omega

theorem mag_pack (neg : Bool) {m : Nat} (h : m < 2 ^ 31) : mag (pack neg m) = m := by
  cases neg <;> simp only [mag, pack, BitVec.toNat_ofNat] <;> simp <;> omega

theorem sign_pack (neg : Bool) {m : Nat} (h : m < 2 ^ 31) : sign (pack neg m) = neg := by
  cases neg <;> simp only [sign_eq, pack, BitVec.toNat_ofNat] <;> simp <;> omega

theorem pack_sign_mag (a : F32) : pack (sign a) (mag a) = a := by
  apply BitVec.eq_of_toNat_eq
  have h := a.isLt
  rw [toNat_eq a]
  have hm := mag_lt a
  cases sign a <;> simp [pack] <;> omega

/-- A datum is its sign and its magnitude pattern. -/
theorem eq_of_sign_mag {a b : F32} (hs : sign a = sign b) (hm : mag a = mag b) : a = b := by
  rw [← pack_sign_mag a, hs, hm, pack_sign_mag]

theorem infMag_lt : infMag < 2 ^ 31 := by decide

@[simp] theorem sign_neg (a : F32) : sign (neg a) = !sign a := sign_pack _ (mag_lt a)

@[simp] theorem mag_neg (a : F32) : mag (neg a) = mag a := mag_pack _ (mag_lt a)

/-- A datum is finite, an infinity or a NaN, and only one of them. -/
theorem isFinite_iff (a : F32) : isFinite a = true ↔ mag a < infMag := by simp [isFinite]

theorem isNaN_iff (a : F32) : isNaN a = true ↔ infMag < mag a := by simp [isNaN]

theorem isInf_iff (a : F32) : isInf a = true ↔ mag a = infMag := by simp [isInf]

theorem not_isNaN_of_isFinite {a : F32} (h : isFinite a = true) : isNaN a = false := by
  simp only [isFinite, isNaN, decide_eq_true_eq, decide_eq_false_iff_not] at *
  omega

theorem not_isInf_of_isFinite {a : F32} (h : isFinite a = true) : isInf a = false := by
  simp only [isFinite, isInf, decide_eq_true_eq, beq_eq_false_iff_ne] at *
  omega

@[simp] theorem units_neg (a : F32) : units (neg a) = units a := by simp [units]

@[simp] theorem value_neg (a : F32) : value (neg a) = -value a := by
  cases h : sign a <;> simp [value, h]

@[simp] theorem isFinite_neg (a : F32) : isFinite (neg a) = isFinite a := by simp [isFinite]

@[simp] theorem isNaN_neg (a : F32) : isNaN (neg a) = isNaN a := by simp [isNaN]

@[simp] theorem isInf_neg (a : F32) : isInf (neg a) = isInf a := by simp [isInf]

theorem natAbs_value (a : F32) : (value a).natAbs = units a := by
  unfold value; split <;> simp

/-! ### Magnitude patterns and the units they stand for -/

theorem magUnits_of_lt {m : Nat} (h : m < 2 ^ 23) : magUnits m = m := by
  have h0 : m / 2 ^ 23 = 0 := Nat.div_eq_of_lt h
  simp only [magUnits, h0, if_true]
  exact Nat.mod_eq_of_lt h

/-- A pattern written as `e` exponent steps over a significand of at most 24 bits, hidden bit included, stands for that
significand times 2^e. A significand one above 24 bits is the carry into the next exponent. -/
theorem magUnits_eq (e f : Nat) (h : e = 0 ∨ 2 ^ 23 ≤ f) (hf : f ≤ 2 ^ 24) :
    magUnits (e * 2 ^ 23 + f) = f * 2 ^ e := by
  by_cases h24 : f = 2 ^ 24
  · subst h24
    have hd : (e * 2 ^ 23 + 2 ^ 24) / 2 ^ 23 = e + 2 := by omega
    have hm : (e * 2 ^ 23 + 2 ^ 24) % 2 ^ 23 = 0 := by omega
    rw [magUnits, hd, hm, if_neg (by omega), show e + 2 - 1 = e + 1 by omega, Nat.pow_succ]
    omega
  · by_cases h0 : f < 2 ^ 23
    · have he : e = 0 := by omega
      subst he
      simpa using magUnits_of_lt h0
    · have hd : (e * 2 ^ 23 + f) / 2 ^ 23 = e + 1 := by omega
      have hm : (e * 2 ^ 23 + f) % 2 ^ 23 = f - 2 ^ 23 := by omega
      rw [magUnits, hd, hm, if_neg (by omega), show e + 1 - 1 = e by omega,
        show 2 ^ 23 + (f - 2 ^ 23) = f by omega]

/-- Every pattern has that form. -/
theorem exists_exponent_significand (m : Nat) :
    ∃ e f, m = e * 2 ^ 23 + f ∧ (e = 0 ∨ 2 ^ 23 ≤ f) ∧ f < 2 ^ 24 ∧ magUnits m = f * 2 ^ e := by
  by_cases h : m < 2 ^ 23
  · exact ⟨0, m, by omega, .inl rfl, by omega, by simpa using magUnits_of_lt h⟩
  · have hm : m = (m / 2 ^ 23 - 1) * 2 ^ 23 + (2 ^ 23 + m % 2 ^ 23) := by omega
    refine ⟨m / 2 ^ 23 - 1, 2 ^ 23 + m % 2 ^ 23, hm, .inr (by omega), by omega, ?_⟩
    rw [magUnits, if_neg (by omega)]

theorem magUnits_lt_succ (m : Nat) : magUnits m < magUnits (m + 1) := by
  obtain ⟨e, f, hm, hef, hf, hu⟩ := exists_exponent_significand m
  have h1 : magUnits (m + 1) = (f + 1) * 2 ^ e := by
    rw [hm, Nat.add_assoc]
    exact magUnits_eq e (f + 1) (by omega) (by omega)
  rw [hu, h1]
  exact Nat.mul_lt_mul_of_pos_right (by omega) (Nat.two_pow_pos e)

theorem magUnits_lt {m n : Nat} (h : m < n) : magUnits m < magUnits n := by
  induction n with
  | zero => omega
  | succ n ih =>
    by_cases hn : m = n
    · exact hn ▸ magUnits_lt_succ m
    · exact Nat.lt_trans (ih (by omega)) (magUnits_lt_succ n)

theorem magUnits_lt_iff {m n : Nat} : magUnits m < magUnits n ↔ m < n := by
  refine ⟨fun h => ?_, magUnits_lt⟩
  by_cases hn : n = m
  · subst hn; omega
  · by_cases hlt : n < m
    · have := magUnits_lt hlt; omega
    · omega

theorem magUnits_inj {m n : Nat} (h : magUnits m = magUnits n) : m = n := by
  have h1 := @magUnits_lt_iff m n
  have h2 := @magUnits_lt_iff n m
  omega

@[simp] theorem magUnits_zero : magUnits 0 = 0 := rfl

/-! ### Keys and values -/

/-- The keys order the data as their values do. -/
theorem key_lt_iff_value_lt (a b : F32) : key a < key b ↔ value a < value b := by
  have hab : units a < units b ↔ mag a < mag b := magUnits_lt_iff
  have hba : units b < units a ↔ mag b < mag a := magUnits_lt_iff
  have ha0 : 0 < mag a ↔ 0 < units a := by simpa [units] using (@magUnits_lt_iff 0 (mag a)).symm
  have hb0 : 0 < mag b ↔ 0 < units b := by simpa [units] using (@magUnits_lt_iff 0 (mag b)).symm
  unfold key value
  split <;> split <;> omega

theorem key_le_iff_value_le (a b : F32) : key a ≤ key b ↔ value a ≤ value b := by
  have := key_lt_iff_value_lt b a
  omega

theorem le_iff_of_isFinite {a b : F32} (ha : isFinite a = true) (hb : isFinite b = true) :
    le a b = true ↔ value a ≤ value b := by
  simp [le, not_isNaN_of_isFinite ha, not_isNaN_of_isFinite hb, key_le_iff_value_le]

theorem lt_iff_of_isFinite {a b : F32} (ha : isFinite a = true) (hb : isFinite b = true) :
    lt a b = true ↔ value a < value b := by
  simp [lt, not_isNaN_of_isFinite ha, not_isNaN_of_isFinite hb, key_lt_iff_value_lt]

theorem not_isNaN_of_le_left {a b : F32} (h : le a b = true) : isNaN a = false := by
  simp [le] at h; exact h.1.1

theorem not_isNaN_of_le_right {a b : F32} (h : le a b = true) : isNaN b = false := by
  simp [le] at h; exact h.1.2

theorem le_refl {a : F32} (h : isNaN a = false) : le a a = true := by simp [le, h]

/-- What lies between two finite data is finite. -/
theorem isFinite_of_between {lo x hi : F32} (hlo : isFinite lo = true) (hhi : isFinite hi = true)
    (h1 : le lo x = true) (h2 : le x hi = true) : isFinite x = true := by
  have hx := not_isNaN_of_le_left h2
  have hlo' := (isFinite_iff lo).1 hlo
  have hhi' := (isFinite_iff hi).1 hhi
  simp only [le, Bool.and_eq_true, decide_eq_true_eq] at h1 h2
  have k1 := h1.2
  have k2 := h2.2
  rw [isFinite_iff]
  simp only [isNaN, decide_eq_false_iff_not] at hx
  unfold key at k1 k2
  split at k1 <;> split at k1 <;> simp_all <;> omega

/-! ### Clamp -/

/-- What `clamp` can give: the low bound for a NaN or a lesser datum, the high bound for a greater one, else the datum. -/
theorem clamp_cases (x lo hi : F32) :
    ((isNaN x = true ∨ lt x lo = true) ∧ clamp x lo hi = lo) ∨
    (isNaN x = false ∧ lt x lo = false ∧ lt hi x = true ∧ clamp x lo hi = hi) ∨
    (isNaN x = false ∧ lt x lo = false ∧ lt hi x = false ∧ clamp x lo hi = x) := by
  unfold clamp
  cases h1 : isNaN x <;> cases h2 : lt x lo <;> cases h3 : lt hi x <;> simp

/-- Between bounds in order, a clamped datum lies between them. -/
theorem clamp_between (x : F32) {lo hi : F32} (h : le lo hi = true) :
    le lo (clamp x lo hi) = true ∧ le (clamp x lo hi) hi = true := by
  have hlo := not_isNaN_of_le_left h
  have hhi := not_isNaN_of_le_right h
  obtain ⟨-, hc⟩ | ⟨-, -, -, hc⟩ | ⟨hn, h1, h2, hc⟩ := clamp_cases x lo hi <;> rw [hc]
  · exact ⟨le_refl hlo, h⟩
  · exact ⟨h, le_refl hhi⟩
  · simp [lt, hn, hlo, hhi] at h1 h2
    simp [le, hn, hlo, hhi, h1, h2]

/-! ### Rounding -/

theorem bitLength_le {n k : Nat} (h : n < 2 ^ k) : bitLength n ≤ k := by
  unfold bitLength
  split
  · omega
  · have := (Nat.log2_lt (by assumption)).2 h
    omega

theorem lt_two_pow_bitLength (n : Nat) : n < 2 ^ bitLength n := by
  unfold bitLength
  split
  · omega
  · exact Nat.lt_log2_self

theorem two_pow_le_of_bitLength {n b : Nat} (h : bitLength n = b + 1) : 2 ^ b ≤ n := by
  unfold bitLength at h
  split at h
  · omega
  · have hb : b = n.log2 := by omega
    subst hb
    exact Nat.log2_self_le (by assumption)

theorem roundMag_le (n k : Nat) : roundMag n k ≤ infMag := Nat.min_le_left _ _

theorem roundMag_lt (n k : Nat) : roundMag n k < 2 ^ 31 := Nat.lt_of_le_of_lt (roundMag_le n k) infMag_lt

@[simp] theorem mag_round (neg : Bool) (n k : Nat) : mag (round neg n k) = roundMag n k := mag_pack _ (roundMag_lt n k)

@[simp] theorem sign_round (neg : Bool) (n k : Nat) : sign (round neg n k) = neg := sign_pack _ (roundMag_lt n k)

/-- A rounding never gives a NaN. -/
@[simp] theorem isNaN_round (neg : Bool) (n k : Nat) : isNaN (round neg n k) = false := by
  have := roundMag_le n k
  simp only [isNaN, mag_round, decide_eq_false_iff_not]
  omega

/-- Rounding to a multiple gives the multiple itself. -/
theorem divRoundEven_mul (q d : Nat) : divRoundEven (q * 2 ^ d) d = q := by
  have hp := Nat.two_pow_pos d
  simp only [divRoundEven, Nat.mul_div_cancel _ hp, Nat.mul_mod_left]
  rw [if_neg]
  omega

/-- The units of a finite pattern round to that pattern: what binary32 can hold is not changed. -/
theorem roundMag_magUnits {m : Nat} (h : m ≤ infMag) : roundMag (magUnits m) 0 = m := by
  obtain ⟨e, f, hm, hef, hf, hu⟩ := exists_exponent_significand m
  have hd : dropped (magUnits m) 0 ≤ e := by
    have hb : bitLength (magUnits m) ≤ 24 + e := by
      apply bitLength_le
      rw [hu, Nat.pow_add]
      exact Nat.mul_lt_mul_of_pos_right hf (Nat.two_pow_pos e)
    simp only [dropped]; omega
  have hd' : dropped (magUnits m) 0 = e := by
    by_cases he : e = 0
    · omega
    · have hlo : 2 ^ (23 + e) ≤ magUnits m := by
        rw [hu, Nat.pow_add]
        exact Nat.mul_le_mul_right _ (by omega)
      have hb : 23 + e < bitLength (magUnits m) := by
        apply Nat.lt_of_not_le
        intro hle
        have h1 := lt_two_pow_bitLength (magUnits m)
        have h2 := Nat.pow_le_pow_right (n := 2) (by omega) hle
        omega
      simp only [dropped] at *
      omega
  rw [roundMag, hd', hu, divRoundEven_mul, Nat.sub_zero, Nat.mul_comm, ← hm]
  omega

/-- Rounding the exact value of a finite datum gives the datum back. -/
theorem round_units {a : F32} (h : isFinite a = true) : round (sign a) (units a) 0 = a := by
  have hm : mag a ≤ infMag := Nat.le_of_lt ((isFinite_iff a).1 h)
  apply eq_of_sign_mag
  · simp
  · simp [units, roundMag_magUnits hm]

/-! ### What one rounding gives -/

/-- The two outcomes of `divRoundEven`: down when the remainder is at most half, up when it is at least half, and on a
tie the even quotient. -/
theorem divRoundEven_cases (n d : Nat) :
    (divRoundEven n d = n / 2 ^ d ∧ 2 * (n % 2 ^ d) ≤ 2 ^ d ∧ (2 * (n % 2 ^ d) = 2 ^ d → n / 2 ^ d % 2 = 0)) ∨
    (divRoundEven n d = n / 2 ^ d + 1 ∧ 2 ^ d ≤ 2 * (n % 2 ^ d) ∧
      (2 * (n % 2 ^ d) = 2 ^ d → n / 2 ^ d % 2 = 1)) := by
  simp only [divRoundEven]
  split <;> omega

/-- How many bits a rounding gives up: at least `k`, few enough to lose no more than it must. -/
theorem dropped_bounds (n k : Nat) :
    k ≤ dropped n k ∧ n < 2 ^ (dropped n k + 24) ∧ (dropped n k = k ∨ 2 ^ (dropped n k + 23) ≤ n) := by
  have h1 := lt_two_pow_bitLength n
  refine ⟨Nat.le_max_left _ _, ?_, ?_⟩
  · apply Nat.lt_of_lt_of_le h1
    apply Nat.pow_le_pow_right (by omega)
    unfold dropped; omega
  · by_cases h : bitLength n - 24 ≤ k
    · left; unfold dropped; omega
    · right
      have : bitLength n = (dropped n k + 23) + 1 := by unfold dropped; omega
      exact two_pow_le_of_bitLength this

/-- The rounded significand has at most 24 bits, or is the carry out of them; above the least exponent it has the
hidden bit. -/
theorem significand_bounds (n k : Nat) :
    divRoundEven n (dropped n k) ≤ 2 ^ 24 ∧
    (dropped n k - k = 0 ∨ 2 ^ 23 ≤ divRoundEven n (dropped n k)) := by
  obtain ⟨h1, h2, h3⟩ := dropped_bounds n k
  generalize dropped n k = d at *
  have hq : n / 2 ^ d < 2 ^ 24 := by
    rw [Nat.div_lt_iff_lt_mul (Nat.two_pow_pos d), ← Nat.pow_add, Nat.add_comm]; exact h2
  have hc := divRoundEven_cases n d
  refine ⟨by omega, ?_⟩
  rcases h3 with h3 | h3
  · left; omega
  · right
    have : 2 ^ 23 ≤ n / 2 ^ d := by
      rw [Nat.le_div_iff_mul_le (Nat.two_pow_pos d), ← Nat.pow_add, Nat.add_comm]; exact h3
    omega

/-- The value of the pattern a rounding writes, before it is cut off at the infinity. -/
theorem magUnits_rounded (n k : Nat) :
    magUnits (2 ^ 23 * (dropped n k - k) + divRoundEven n (dropped n k)) =
      divRoundEven n (dropped n k) * 2 ^ (dropped n k - k) := by
  obtain ⟨h1, h2⟩ := significand_bounds n k
  rw [Nat.mul_comm (2 ^ 23)]
  exact magUnits_eq _ _ h2 h1

/-- An integer of at most 24 bits is a datum: it rounds to a finite pattern that stands for it. -/
theorem roundMag_of_lt (n : Nat) (h : n < 2 ^ 24) :
    magUnits (roundMag (2 ^ 149 * n) 0) = 2 ^ 149 * n ∧ roundMag (2 ^ 149 * n) 0 < infMag := by
  by_cases h0 : n = 0
  · subst h0; constructor <;> decide
  have hb1 := lt_two_pow_bitLength n
  have hble : bitLength n ≤ 24 := bitLength_le h
  obtain ⟨b, hb⟩ : ∃ b, bitLength n = b + 1 := ⟨n.log2, by unfold bitLength; rw [if_neg h0]⟩
  have hb2 := two_pow_le_of_bitLength hb
  have hf1 : 2 ^ 23 ≤ n * 2 ^ (23 - b) := by
    calc 2 ^ 23 = 2 ^ b * 2 ^ (23 - b) := by rw [← Nat.pow_add]; congr 1; omega
      _ ≤ _ := Nat.mul_le_mul_right _ hb2
  have hf2 : n * 2 ^ (23 - b) < 2 ^ 24 := by
    have : n < 2 ^ (b + 1) := by rw [← hb]; exact hb1
    calc n * 2 ^ (23 - b) < 2 ^ (b + 1) * 2 ^ (23 - b) := Nat.mul_lt_mul_of_pos_right this (Nat.two_pow_pos _)
      _ = 2 ^ 24 := by rw [← Nat.pow_add]; congr 1; omega
  have hm := magUnits_eq (149 - (23 - b)) (n * 2 ^ (23 - b)) (.inr hf1) (by omega)
  have hv : n * 2 ^ (23 - b) * 2 ^ (149 - (23 - b)) = 2 ^ 149 * n := by
    rw [Nat.mul_assoc, ← Nat.pow_add, Nat.mul_comm n]; congr 2; omega
  rw [hv] at hm
  have hlt : (149 - (23 - b)) * 2 ^ 23 + n * 2 ^ (23 - b) < infMag := by
    have : infMag = 255 * 2 ^ 23 := by decide
    have : 149 - (23 - b) ≤ 149 := by omega
    have := Nat.mul_le_mul_right (2 ^ 23) this
    omega
  have hr := roundMag_magUnits (Nat.le_of_lt hlt)
  rw [hm] at hr
  rw [hr]
  exact ⟨hm, hlt⟩

/-! ### The operations -/

theorem add_of_isNaN {a b : F32} (h : isNaN a = true ∨ isNaN b = true) : add a b = nan := by
  have h' : (isNaN a || isNaN b) = true := by simpa using h
  simp [add, h']

theorem mul_of_isNaN {a b : F32} (h : isNaN a = true ∨ isNaN b = true) : mul a b = nan := by
  have h' : (isNaN a || isNaN b) = true := by simpa using h
  simp [mul, h']

theorem add_of_isFinite {a b : F32} (ha : isFinite a = true) (hb : isFinite b = true) :
    add a b = round (decide (value a + value b < 0) || (sign a && sign b)) (value a + value b).natAbs 0 := by
  simp [add, not_isNaN_of_isFinite ha, not_isNaN_of_isFinite hb, not_isInf_of_isFinite ha, not_isInf_of_isFinite hb]

theorem mul_of_isFinite {a b : F32} (ha : isFinite a = true) (hb : isFinite b = true) :
    mul a b = round (sign a != sign b) (units a * units b) 149 := by
  simp [mul, not_isNaN_of_isFinite ha, not_isNaN_of_isFinite hb, not_isInf_of_isFinite ha, not_isInf_of_isFinite hb]

theorem add_of_isInf_left {a b : F32} (ha : isInf a = true) (hb : isNaN b = false) :
    add a b = if isInf b = true ∧ sign a ≠ sign b then nan else a := by
  have hna : isNaN a = false := by
    simp only [isInf, beq_iff_eq] at ha
    simp [isNaN, ha]
  by_cases hc : isInf b = true ∧ sign a ≠ sign b
  · rw [if_pos hc]; simp [add, hna, hb, ha, hc.1, hc.2]
  · rw [if_neg hc]
    have : (isInf b && (sign a != sign b)) = false := by
      rw [Bool.and_eq_false_iff]
      simpa [Classical.or_iff_not_imp_left] using hc
    simp [add, hna, hb, ha, this]

theorem add_of_isInf_right {a b : F32} (ha : isFinite a = true) (hb : isInf b = true) : add a b = b := by
  have hnb : isNaN b = false := by
    simp only [isInf, beq_iff_eq] at hb
    simp [isNaN, hb]
  simp [add, not_isNaN_of_isFinite ha, hnb, not_isInf_of_isFinite ha, hb]

end Sys2Proof.F32
end

