-- ==== Sys2Proof/Laws/Config.lean ====
section
/-! SUPPORT. What every configuration meets, whatever its parameters: the constraints of 00_scope.md R8, taken apart
once, and what they say of the duty bounds. -/

namespace Sys2Proof

theorem Config.dcMin_le_dcMax (c : Config) : c.params.dcMin ≤ c.params.dcMax := by
  have := c.ok
  simp only [Parameters.wellFormed, Bool.and_eq_true, decide_eq_true_eq] at this
  simp only [this]

theorem Config.dcMax_le (c : Config) : c.params.dcMax ≤ 511 := by
  have := c.ok
  simp only [Parameters.wellFormed, Bool.and_eq_true, decide_eq_true_eq] at this
  simp only [this]

theorem Config.errMin_isFinite (c : Config) : F32.isFinite c.params.errMin = true := by
  have := c.ok
  simp only [Parameters.wellFormed, Bool.and_eq_true] at this
  simp only [this]

theorem Config.errMax_isFinite (c : Config) : F32.isFinite c.params.errMax = true := by
  have := c.ok
  simp only [Parameters.wellFormed, Bool.and_eq_true] at this
  simp only [this]

theorem Config.errMin_le_errMax (c : Config) : F32.le c.params.errMin c.params.errMax = true := by
  have := c.ok
  simp only [Parameters.wellFormed, Bool.and_eq_true] at this
  simp only [this]

/-- All six gains are finite. -/
theorem Config.gains_isFinite (c : Config) :
    (F32.isFinite c.params.kpCC = true ∧ F32.isFinite c.params.kiCC = true ∧ F32.isFinite c.params.kdCC = true) ∧
    (F32.isFinite c.params.kpCV = true ∧ F32.isFinite c.params.kiCV = true ∧ F32.isFinite c.params.kdCV = true) := by
  have := c.ok
  simp only [Parameters.wellFormed, Bool.and_eq_true] at this
  simp only [this, and_self]

namespace Machine

theorem gainSet_isFinite (c : Config) (m : Mode) :
    F32.isFinite (gainSet c m).kp = true ∧ F32.isFinite (gainSet c m).ki = true ∧ F32.isFinite (gainSet c m).kd = true := by
  cases m
  · exact c.gains_isFinite.1
  · exact c.gains_isFinite.2

/-- DC_MIN fits the duty register. -/
theorem ofNat_dcMin_toNat (c : Config) : (BitVec.ofNat 9 c.params.dcMin : Duty).toNat = c.params.dcMin := by
  have := c.dcMin_le_dcMax
  have := c.dcMax_le
  rw [BitVec.toNat_ofNat]
  omega

end Machine

end Sys2Proof
end

