-- ==== Sys2Proof/Laws/State.lean ====
section
/-! SUPPORT. One lemma per field per named update of the state, each true by `rfl`, so that no later proof unfolds a
record update. -/

namespace Sys2Proof.Machine.State

variable (s : State)

/-! `emit` -/

@[simp] theorem emit_running (e : Event) : (s.emit e).running = s.running := rfl
@[simp] theorem emit_mode (e : Event) : (s.emit e).mode = s.mode := rfl
@[simp] theorem emit_secFlag (e : Event) : (s.emit e).secFlag = s.secFlag := rfl
@[simp] theorem emit_activeCell (e : Event) : (s.emit e).activeCell = s.activeCell := rfl
@[simp] theorem emit_kp (e : Event) : (s.emit e).kp = s.kp := rfl
@[simp] theorem emit_ki (e : Event) : (s.emit e).ki = s.ki := rfl
@[simp] theorem emit_kd (e : Event) : (s.emit e).kd = s.kd := rfl
@[simp] theorem emit_errorAcc (e : Event) : (s.emit e).errorAcc = s.errorAcc := rfl
@[simp] theorem emit_dutyAcc (e : Event) : (s.emit e).dutyAcc = s.dutyAcc := rfl
@[simp] theorem emit_lastError (e : Event) : (s.emit e).lastError = s.lastError := rfl
@[simp] theorem emit_iRef (e : Event) : (s.emit e).iRef = s.iRef := rfl
@[simp] theorem emit_vRef (e : Event) : (s.emit e).vRef = s.vRef := rfl
@[simp] theorem emit_countdown (e : Event) : (s.emit e).countdown = s.countdown := rfl
@[simp] theorem emit_seconds (e : Event) : (s.emit e).seconds = s.seconds := rfl
@[simp] theorem emit_iAcc (e : Event) : (s.emit e).iAcc = s.iAcc := rfl
@[simp] theorem emit_vAcc (e : Event) : (s.emit e).vAcc = s.vAcc := rfl
@[simp] theorem emit_iAvg (e : Event) : (s.emit e).iAvg = s.iAvg := rfl
@[simp] theorem emit_vAvg (e : Event) : (s.emit e).vAvg = s.vAvg := rfl
@[simp] theorem emit_dutyShadow (e : Event) : (s.emit e).dutyShadow = s.dutyShadow := rfl
@[simp] theorem emit_dutyActive (e : Event) : (s.emit e).dutyActive = s.dutyActive := rfl
@[simp] theorem emit_out (e : Event) : (s.emit e).out = s.out ++ [e] := rfl
@[simp] theorem emit_responses (e : Event) : (s.emit e).responses = s.responses := rfl
@[simp] theorem emit_pending (e : Event) : (s.emit e).pending = s.pending := rfl
@[simp] theorem emit_resetPending (e : Event) : (s.emit e).resetPending = s.resetPending := rfl
@[simp] theorem emit_cfg (e : Event) : (s.emit e).cfg = s.cfg := rfl

/-! `respond` -/

@[simp] theorem respond_running (ok : Bool) (data : Word) : (s.respond ok data).running = s.running := rfl
@[simp] theorem respond_mode (ok : Bool) (data : Word) : (s.respond ok data).mode = s.mode := rfl
@[simp] theorem respond_secFlag (ok : Bool) (data : Word) : (s.respond ok data).secFlag = s.secFlag := rfl
@[simp] theorem respond_activeCell (ok : Bool) (data : Word) : (s.respond ok data).activeCell = s.activeCell := rfl
@[simp] theorem respond_kp (ok : Bool) (data : Word) : (s.respond ok data).kp = s.kp := rfl
@[simp] theorem respond_ki (ok : Bool) (data : Word) : (s.respond ok data).ki = s.ki := rfl
@[simp] theorem respond_kd (ok : Bool) (data : Word) : (s.respond ok data).kd = s.kd := rfl
@[simp] theorem respond_errorAcc (ok : Bool) (data : Word) : (s.respond ok data).errorAcc = s.errorAcc := rfl
@[simp] theorem respond_dutyAcc (ok : Bool) (data : Word) : (s.respond ok data).dutyAcc = s.dutyAcc := rfl
@[simp] theorem respond_lastError (ok : Bool) (data : Word) : (s.respond ok data).lastError = s.lastError := rfl
@[simp] theorem respond_iRef (ok : Bool) (data : Word) : (s.respond ok data).iRef = s.iRef := rfl
@[simp] theorem respond_vRef (ok : Bool) (data : Word) : (s.respond ok data).vRef = s.vRef := rfl
@[simp] theorem respond_countdown (ok : Bool) (data : Word) : (s.respond ok data).countdown = s.countdown := rfl
@[simp] theorem respond_seconds (ok : Bool) (data : Word) : (s.respond ok data).seconds = s.seconds := rfl
@[simp] theorem respond_iAcc (ok : Bool) (data : Word) : (s.respond ok data).iAcc = s.iAcc := rfl
@[simp] theorem respond_vAcc (ok : Bool) (data : Word) : (s.respond ok data).vAcc = s.vAcc := rfl
@[simp] theorem respond_iAvg (ok : Bool) (data : Word) : (s.respond ok data).iAvg = s.iAvg := rfl
@[simp] theorem respond_vAvg (ok : Bool) (data : Word) : (s.respond ok data).vAvg = s.vAvg := rfl
@[simp] theorem respond_dutyShadow (ok : Bool) (data : Word) : (s.respond ok data).dutyShadow = s.dutyShadow := rfl
@[simp] theorem respond_dutyActive (ok : Bool) (data : Word) : (s.respond ok data).dutyActive = s.dutyActive := rfl
@[simp] theorem respond_out (ok : Bool) (data : Word) : (s.respond ok data).out = s.out := rfl
@[simp] theorem respond_responses (ok : Bool) (data : Word) : (s.respond ok data).responses = s.responses ++ [⟨ok, data⟩] := rfl
@[simp] theorem respond_pending (ok : Bool) (data : Word) : (s.respond ok data).pending = s.pending := rfl
@[simp] theorem respond_resetPending (ok : Bool) (data : Word) : (s.respond ok data).resetPending = s.resetPending := rfl
@[simp] theorem respond_cfg (ok : Bool) (data : Word) : (s.respond ok data).cfg = s.cfg := rfl

/-! `loadGains` -/

@[simp] theorem loadGains_running (g : Gains) : (s.loadGains g).running = s.running := rfl
@[simp] theorem loadGains_mode (g : Gains) : (s.loadGains g).mode = s.mode := rfl
@[simp] theorem loadGains_secFlag (g : Gains) : (s.loadGains g).secFlag = s.secFlag := rfl
@[simp] theorem loadGains_activeCell (g : Gains) : (s.loadGains g).activeCell = s.activeCell := rfl
@[simp] theorem loadGains_kp (g : Gains) : (s.loadGains g).kp = g.kp := rfl
@[simp] theorem loadGains_ki (g : Gains) : (s.loadGains g).ki = g.ki := rfl
@[simp] theorem loadGains_kd (g : Gains) : (s.loadGains g).kd = g.kd := rfl
@[simp] theorem loadGains_errorAcc (g : Gains) : (s.loadGains g).errorAcc = s.errorAcc := rfl
@[simp] theorem loadGains_dutyAcc (g : Gains) : (s.loadGains g).dutyAcc = s.dutyAcc := rfl
@[simp] theorem loadGains_lastError (g : Gains) : (s.loadGains g).lastError = s.lastError := rfl
@[simp] theorem loadGains_iRef (g : Gains) : (s.loadGains g).iRef = s.iRef := rfl
@[simp] theorem loadGains_vRef (g : Gains) : (s.loadGains g).vRef = s.vRef := rfl
@[simp] theorem loadGains_countdown (g : Gains) : (s.loadGains g).countdown = s.countdown := rfl
@[simp] theorem loadGains_seconds (g : Gains) : (s.loadGains g).seconds = s.seconds := rfl
@[simp] theorem loadGains_iAcc (g : Gains) : (s.loadGains g).iAcc = s.iAcc := rfl
@[simp] theorem loadGains_vAcc (g : Gains) : (s.loadGains g).vAcc = s.vAcc := rfl
@[simp] theorem loadGains_iAvg (g : Gains) : (s.loadGains g).iAvg = s.iAvg := rfl
@[simp] theorem loadGains_vAvg (g : Gains) : (s.loadGains g).vAvg = s.vAvg := rfl
@[simp] theorem loadGains_dutyShadow (g : Gains) : (s.loadGains g).dutyShadow = s.dutyShadow := rfl
@[simp] theorem loadGains_dutyActive (g : Gains) : (s.loadGains g).dutyActive = s.dutyActive := rfl
@[simp] theorem loadGains_out (g : Gains) : (s.loadGains g).out = s.out := rfl
@[simp] theorem loadGains_responses (g : Gains) : (s.loadGains g).responses = s.responses := rfl
@[simp] theorem loadGains_pending (g : Gains) : (s.loadGains g).pending = s.pending := rfl
@[simp] theorem loadGains_resetPending (g : Gains) : (s.loadGains g).resetPending = s.resetPending := rfl
@[simp] theorem loadGains_cfg (g : Gains) : (s.loadGains g).cfg = s.cfg := rfl

/-! `switchMode` -/

@[simp] theorem switchMode_running (m : Mode) : (s.switchMode m).running = s.running := rfl
@[simp] theorem switchMode_mode (m : Mode) : (s.switchMode m).mode = m := rfl
@[simp] theorem switchMode_secFlag (m : Mode) : (s.switchMode m).secFlag = s.secFlag := rfl
@[simp] theorem switchMode_activeCell (m : Mode) : (s.switchMode m).activeCell = s.activeCell := rfl
@[simp] theorem switchMode_kp (m : Mode) : (s.switchMode m).kp = (gainSet s.cfg m).kp := rfl
@[simp] theorem switchMode_ki (m : Mode) : (s.switchMode m).ki = (gainSet s.cfg m).ki := rfl
@[simp] theorem switchMode_kd (m : Mode) : (s.switchMode m).kd = (gainSet s.cfg m).kd := rfl
@[simp] theorem switchMode_errorAcc (m : Mode) : (s.switchMode m).errorAcc = F32.zero := rfl
@[simp] theorem switchMode_dutyAcc (m : Mode) : (s.switchMode m).dutyAcc = s.dutyAcc := rfl
@[simp] theorem switchMode_lastError (m : Mode) : (s.switchMode m).lastError = s.lastError := rfl
@[simp] theorem switchMode_iRef (m : Mode) : (s.switchMode m).iRef = s.iRef := rfl
@[simp] theorem switchMode_vRef (m : Mode) : (s.switchMode m).vRef = s.vRef := rfl
@[simp] theorem switchMode_countdown (m : Mode) : (s.switchMode m).countdown = s.countdown := rfl
@[simp] theorem switchMode_seconds (m : Mode) : (s.switchMode m).seconds = s.seconds := rfl
@[simp] theorem switchMode_iAcc (m : Mode) : (s.switchMode m).iAcc = s.iAcc := rfl
@[simp] theorem switchMode_vAcc (m : Mode) : (s.switchMode m).vAcc = s.vAcc := rfl
@[simp] theorem switchMode_iAvg (m : Mode) : (s.switchMode m).iAvg = s.iAvg := rfl
@[simp] theorem switchMode_vAvg (m : Mode) : (s.switchMode m).vAvg = s.vAvg := rfl
@[simp] theorem switchMode_dutyShadow (m : Mode) : (s.switchMode m).dutyShadow = s.dutyShadow := rfl
@[simp] theorem switchMode_dutyActive (m : Mode) : (s.switchMode m).dutyActive = s.dutyActive := rfl
@[simp] theorem switchMode_out (m : Mode) : (s.switchMode m).out = s.out := rfl
@[simp] theorem switchMode_responses (m : Mode) : (s.switchMode m).responses = s.responses := rfl
@[simp] theorem switchMode_pending (m : Mode) : (s.switchMode m).pending = s.pending := rfl
@[simp] theorem switchMode_resetPending (m : Mode) : (s.switchMode m).resetPending = s.resetPending := rfl
@[simp] theorem switchMode_cfg (m : Mode) : (s.switchMode m).cfg = s.cfg := rfl

/-! `dutyWrite` -/

@[simp] theorem dutyWrite_running (v : Duty) : (s.dutyWrite v).running = s.running := rfl
@[simp] theorem dutyWrite_mode (v : Duty) : (s.dutyWrite v).mode = s.mode := rfl
@[simp] theorem dutyWrite_secFlag (v : Duty) : (s.dutyWrite v).secFlag = s.secFlag := rfl
@[simp] theorem dutyWrite_activeCell (v : Duty) : (s.dutyWrite v).activeCell = s.activeCell := rfl
@[simp] theorem dutyWrite_kp (v : Duty) : (s.dutyWrite v).kp = s.kp := rfl
@[simp] theorem dutyWrite_ki (v : Duty) : (s.dutyWrite v).ki = s.ki := rfl
@[simp] theorem dutyWrite_kd (v : Duty) : (s.dutyWrite v).kd = s.kd := rfl
@[simp] theorem dutyWrite_errorAcc (v : Duty) : (s.dutyWrite v).errorAcc = s.errorAcc := rfl
@[simp] theorem dutyWrite_dutyAcc (v : Duty) : (s.dutyWrite v).dutyAcc = s.dutyAcc := rfl
@[simp] theorem dutyWrite_lastError (v : Duty) : (s.dutyWrite v).lastError = s.lastError := rfl
@[simp] theorem dutyWrite_iRef (v : Duty) : (s.dutyWrite v).iRef = s.iRef := rfl
@[simp] theorem dutyWrite_vRef (v : Duty) : (s.dutyWrite v).vRef = s.vRef := rfl
@[simp] theorem dutyWrite_countdown (v : Duty) : (s.dutyWrite v).countdown = s.countdown := rfl
@[simp] theorem dutyWrite_seconds (v : Duty) : (s.dutyWrite v).seconds = s.seconds := rfl
@[simp] theorem dutyWrite_iAcc (v : Duty) : (s.dutyWrite v).iAcc = s.iAcc := rfl
@[simp] theorem dutyWrite_vAcc (v : Duty) : (s.dutyWrite v).vAcc = s.vAcc := rfl
@[simp] theorem dutyWrite_iAvg (v : Duty) : (s.dutyWrite v).iAvg = s.iAvg := rfl
@[simp] theorem dutyWrite_vAvg (v : Duty) : (s.dutyWrite v).vAvg = s.vAvg := rfl
@[simp] theorem dutyWrite_dutyShadow (v : Duty) : (s.dutyWrite v).dutyShadow = v := rfl
@[simp] theorem dutyWrite_dutyActive (v : Duty) : (s.dutyWrite v).dutyActive = s.dutyActive := rfl
@[simp] theorem dutyWrite_out (v : Duty) : (s.dutyWrite v).out = s.out ++ [.setDuty v] := rfl
@[simp] theorem dutyWrite_responses (v : Duty) : (s.dutyWrite v).responses = s.responses := rfl
@[simp] theorem dutyWrite_pending (v : Duty) : (s.dutyWrite v).pending = s.pending := rfl
@[simp] theorem dutyWrite_resetPending (v : Duty) : (s.dutyWrite v).resetPending = s.resetPending := rfl
@[simp] theorem dutyWrite_cfg (v : Duty) : (s.dutyWrite v).cfg = s.cfg := rfl

/-! `dutyToMin` -/

@[simp] theorem dutyToMin_running : (s.dutyToMin).running = s.running := rfl
@[simp] theorem dutyToMin_mode : (s.dutyToMin).mode = s.mode := rfl
@[simp] theorem dutyToMin_secFlag : (s.dutyToMin).secFlag = s.secFlag := rfl
@[simp] theorem dutyToMin_activeCell : (s.dutyToMin).activeCell = s.activeCell := rfl
@[simp] theorem dutyToMin_kp : (s.dutyToMin).kp = s.kp := rfl
@[simp] theorem dutyToMin_ki : (s.dutyToMin).ki = s.ki := rfl
@[simp] theorem dutyToMin_kd : (s.dutyToMin).kd = s.kd := rfl
@[simp] theorem dutyToMin_errorAcc : (s.dutyToMin).errorAcc = s.errorAcc := rfl
@[simp] theorem dutyToMin_dutyAcc : (s.dutyToMin).dutyAcc = dutyFloor s.cfg := rfl
@[simp] theorem dutyToMin_lastError : (s.dutyToMin).lastError = s.lastError := rfl
@[simp] theorem dutyToMin_iRef : (s.dutyToMin).iRef = s.iRef := rfl
@[simp] theorem dutyToMin_vRef : (s.dutyToMin).vRef = s.vRef := rfl
@[simp] theorem dutyToMin_countdown : (s.dutyToMin).countdown = s.countdown := rfl
@[simp] theorem dutyToMin_seconds : (s.dutyToMin).seconds = s.seconds := rfl
@[simp] theorem dutyToMin_iAcc : (s.dutyToMin).iAcc = s.iAcc := rfl
@[simp] theorem dutyToMin_vAcc : (s.dutyToMin).vAcc = s.vAcc := rfl
@[simp] theorem dutyToMin_iAvg : (s.dutyToMin).iAvg = s.iAvg := rfl
@[simp] theorem dutyToMin_vAvg : (s.dutyToMin).vAvg = s.vAvg := rfl
@[simp] theorem dutyToMin_dutyShadow : (s.dutyToMin).dutyShadow = BitVec.ofNat 9 s.cfg.dcMin := rfl
@[simp] theorem dutyToMin_dutyActive : (s.dutyToMin).dutyActive = s.dutyActive := rfl
@[simp] theorem dutyToMin_out : (s.dutyToMin).out = s.out ++ [.setDuty (BitVec.ofNat 9 s.cfg.dcMin)] := rfl
@[simp] theorem dutyToMin_responses : (s.dutyToMin).responses = s.responses := rfl
@[simp] theorem dutyToMin_pending : (s.dutyToMin).pending = s.pending := rfl
@[simp] theorem dutyToMin_resetPending : (s.dutyToMin).resetPending = s.resetPending := rfl
@[simp] theorem dutyToMin_cfg : (s.dutyToMin).cfg = s.cfg := rfl

/-! `freshWindow` -/

@[simp] theorem freshWindow_running : (s.freshWindow).running = s.running := rfl
@[simp] theorem freshWindow_mode : (s.freshWindow).mode = s.mode := rfl
@[simp] theorem freshWindow_secFlag : (s.freshWindow).secFlag = s.secFlag := rfl
@[simp] theorem freshWindow_activeCell : (s.freshWindow).activeCell = s.activeCell := rfl
@[simp] theorem freshWindow_kp : (s.freshWindow).kp = s.kp := rfl
@[simp] theorem freshWindow_ki : (s.freshWindow).ki = s.ki := rfl
@[simp] theorem freshWindow_kd : (s.freshWindow).kd = s.kd := rfl
@[simp] theorem freshWindow_errorAcc : (s.freshWindow).errorAcc = s.errorAcc := rfl
@[simp] theorem freshWindow_dutyAcc : (s.freshWindow).dutyAcc = s.dutyAcc := rfl
@[simp] theorem freshWindow_lastError : (s.freshWindow).lastError = s.lastError := rfl
@[simp] theorem freshWindow_iRef : (s.freshWindow).iRef = s.iRef := rfl
@[simp] theorem freshWindow_vRef : (s.freshWindow).vRef = s.vRef := rfl
@[simp] theorem freshWindow_countdown : (s.freshWindow).countdown = 1024 := rfl
@[simp] theorem freshWindow_seconds : (s.freshWindow).seconds = s.seconds := rfl
@[simp] theorem freshWindow_iAcc : (s.freshWindow).iAcc = 0 := rfl
@[simp] theorem freshWindow_vAcc : (s.freshWindow).vAcc = 0 := rfl
@[simp] theorem freshWindow_iAvg : (s.freshWindow).iAvg = s.iAvg := rfl
@[simp] theorem freshWindow_vAvg : (s.freshWindow).vAvg = s.vAvg := rfl
@[simp] theorem freshWindow_dutyShadow : (s.freshWindow).dutyShadow = s.dutyShadow := rfl
@[simp] theorem freshWindow_dutyActive : (s.freshWindow).dutyActive = s.dutyActive := rfl
@[simp] theorem freshWindow_out : (s.freshWindow).out = s.out := rfl
@[simp] theorem freshWindow_responses : (s.freshWindow).responses = s.responses := rfl
@[simp] theorem freshWindow_pending : (s.freshWindow).pending = s.pending := rfl
@[simp] theorem freshWindow_resetPending : (s.freshWindow).resetPending = s.resetPending := rfl
@[simp] theorem freshWindow_cfg : (s.freshWindow).cfg = s.cfg := rfl

/-! `setSecFlag` -/

@[simp] theorem setSecFlag_running : (s.setSecFlag).running = s.running := rfl
@[simp] theorem setSecFlag_mode : (s.setSecFlag).mode = s.mode := rfl
@[simp] theorem setSecFlag_secFlag : (s.setSecFlag).secFlag = true := rfl
@[simp] theorem setSecFlag_activeCell : (s.setSecFlag).activeCell = s.activeCell := rfl
@[simp] theorem setSecFlag_kp : (s.setSecFlag).kp = s.kp := rfl
@[simp] theorem setSecFlag_ki : (s.setSecFlag).ki = s.ki := rfl
@[simp] theorem setSecFlag_kd : (s.setSecFlag).kd = s.kd := rfl
@[simp] theorem setSecFlag_errorAcc : (s.setSecFlag).errorAcc = s.errorAcc := rfl
@[simp] theorem setSecFlag_dutyAcc : (s.setSecFlag).dutyAcc = s.dutyAcc := rfl
@[simp] theorem setSecFlag_lastError : (s.setSecFlag).lastError = s.lastError := rfl
@[simp] theorem setSecFlag_iRef : (s.setSecFlag).iRef = s.iRef := rfl
@[simp] theorem setSecFlag_vRef : (s.setSecFlag).vRef = s.vRef := rfl
@[simp] theorem setSecFlag_countdown : (s.setSecFlag).countdown = s.countdown := rfl
@[simp] theorem setSecFlag_seconds : (s.setSecFlag).seconds = s.seconds := rfl
@[simp] theorem setSecFlag_iAcc : (s.setSecFlag).iAcc = s.iAcc := rfl
@[simp] theorem setSecFlag_vAcc : (s.setSecFlag).vAcc = s.vAcc := rfl
@[simp] theorem setSecFlag_iAvg : (s.setSecFlag).iAvg = s.iAvg := rfl
@[simp] theorem setSecFlag_vAvg : (s.setSecFlag).vAvg = s.vAvg := rfl
@[simp] theorem setSecFlag_dutyShadow : (s.setSecFlag).dutyShadow = s.dutyShadow := rfl
@[simp] theorem setSecFlag_dutyActive : (s.setSecFlag).dutyActive = s.dutyActive := rfl
@[simp] theorem setSecFlag_out : (s.setSecFlag).out = s.out := rfl
@[simp] theorem setSecFlag_responses : (s.setSecFlag).responses = s.responses := rfl
@[simp] theorem setSecFlag_pending : (s.setSecFlag).pending = s.pending := rfl
@[simp] theorem setSecFlag_resetPending : (s.setSecFlag).resetPending = s.resetPending := rfl
@[simp] theorem setSecFlag_cfg : (s.setSecFlag).cfg = s.cfg := rfl

/-! `clearSecFlag` -/

@[simp] theorem clearSecFlag_running : (s.clearSecFlag).running = s.running := rfl
@[simp] theorem clearSecFlag_mode : (s.clearSecFlag).mode = s.mode := rfl
@[simp] theorem clearSecFlag_secFlag : (s.clearSecFlag).secFlag = false := rfl
@[simp] theorem clearSecFlag_activeCell : (s.clearSecFlag).activeCell = s.activeCell := rfl
@[simp] theorem clearSecFlag_kp : (s.clearSecFlag).kp = s.kp := rfl
@[simp] theorem clearSecFlag_ki : (s.clearSecFlag).ki = s.ki := rfl
@[simp] theorem clearSecFlag_kd : (s.clearSecFlag).kd = s.kd := rfl
@[simp] theorem clearSecFlag_errorAcc : (s.clearSecFlag).errorAcc = s.errorAcc := rfl
@[simp] theorem clearSecFlag_dutyAcc : (s.clearSecFlag).dutyAcc = s.dutyAcc := rfl
@[simp] theorem clearSecFlag_lastError : (s.clearSecFlag).lastError = s.lastError := rfl
@[simp] theorem clearSecFlag_iRef : (s.clearSecFlag).iRef = s.iRef := rfl
@[simp] theorem clearSecFlag_vRef : (s.clearSecFlag).vRef = s.vRef := rfl
@[simp] theorem clearSecFlag_countdown : (s.clearSecFlag).countdown = s.countdown := rfl
@[simp] theorem clearSecFlag_seconds : (s.clearSecFlag).seconds = s.seconds := rfl
@[simp] theorem clearSecFlag_iAcc : (s.clearSecFlag).iAcc = s.iAcc := rfl
@[simp] theorem clearSecFlag_vAcc : (s.clearSecFlag).vAcc = s.vAcc := rfl
@[simp] theorem clearSecFlag_iAvg : (s.clearSecFlag).iAvg = s.iAvg := rfl
@[simp] theorem clearSecFlag_vAvg : (s.clearSecFlag).vAvg = s.vAvg := rfl
@[simp] theorem clearSecFlag_dutyShadow : (s.clearSecFlag).dutyShadow = s.dutyShadow := rfl
@[simp] theorem clearSecFlag_dutyActive : (s.clearSecFlag).dutyActive = s.dutyActive := rfl
@[simp] theorem clearSecFlag_out : (s.clearSecFlag).out = s.out := rfl
@[simp] theorem clearSecFlag_responses : (s.clearSecFlag).responses = s.responses := rfl
@[simp] theorem clearSecFlag_pending : (s.clearSecFlag).pending = s.pending := rfl
@[simp] theorem clearSecFlag_resetPending : (s.clearSecFlag).resetPending = s.resetPending := rfl
@[simp] theorem clearSecFlag_cfg : (s.clearSecFlag).cfg = s.cfg := rfl

/-! `setRunning` -/

@[simp] theorem setRunning_running (r : Bool) : (s.setRunning r).running = r := rfl
@[simp] theorem setRunning_mode (r : Bool) : (s.setRunning r).mode = s.mode := rfl
@[simp] theorem setRunning_secFlag (r : Bool) : (s.setRunning r).secFlag = s.secFlag := rfl
@[simp] theorem setRunning_activeCell (r : Bool) : (s.setRunning r).activeCell = s.activeCell := rfl
@[simp] theorem setRunning_kp (r : Bool) : (s.setRunning r).kp = s.kp := rfl
@[simp] theorem setRunning_ki (r : Bool) : (s.setRunning r).ki = s.ki := rfl
@[simp] theorem setRunning_kd (r : Bool) : (s.setRunning r).kd = s.kd := rfl
@[simp] theorem setRunning_errorAcc (r : Bool) : (s.setRunning r).errorAcc = s.errorAcc := rfl
@[simp] theorem setRunning_dutyAcc (r : Bool) : (s.setRunning r).dutyAcc = s.dutyAcc := rfl
@[simp] theorem setRunning_lastError (r : Bool) : (s.setRunning r).lastError = s.lastError := rfl
@[simp] theorem setRunning_iRef (r : Bool) : (s.setRunning r).iRef = s.iRef := rfl
@[simp] theorem setRunning_vRef (r : Bool) : (s.setRunning r).vRef = s.vRef := rfl
@[simp] theorem setRunning_countdown (r : Bool) : (s.setRunning r).countdown = s.countdown := rfl
@[simp] theorem setRunning_seconds (r : Bool) : (s.setRunning r).seconds = s.seconds := rfl
@[simp] theorem setRunning_iAcc (r : Bool) : (s.setRunning r).iAcc = s.iAcc := rfl
@[simp] theorem setRunning_vAcc (r : Bool) : (s.setRunning r).vAcc = s.vAcc := rfl
@[simp] theorem setRunning_iAvg (r : Bool) : (s.setRunning r).iAvg = s.iAvg := rfl
@[simp] theorem setRunning_vAvg (r : Bool) : (s.setRunning r).vAvg = s.vAvg := rfl
@[simp] theorem setRunning_dutyShadow (r : Bool) : (s.setRunning r).dutyShadow = s.dutyShadow := rfl
@[simp] theorem setRunning_dutyActive (r : Bool) : (s.setRunning r).dutyActive = s.dutyActive := rfl
@[simp] theorem setRunning_out (r : Bool) : (s.setRunning r).out = s.out := rfl
@[simp] theorem setRunning_responses (r : Bool) : (s.setRunning r).responses = s.responses := rfl
@[simp] theorem setRunning_pending (r : Bool) : (s.setRunning r).pending = s.pending := rfl
@[simp] theorem setRunning_resetPending (r : Bool) : (s.setRunning r).resetPending = s.resetPending := rfl
@[simp] theorem setRunning_cfg (r : Bool) : (s.setRunning r).cfg = s.cfg := rfl

/-! `accumulate` -/

@[simp] theorem accumulate_running (v i : Sample) : (s.accumulate v i).running = s.running := rfl
@[simp] theorem accumulate_mode (v i : Sample) : (s.accumulate v i).mode = s.mode := rfl
@[simp] theorem accumulate_secFlag (v i : Sample) : (s.accumulate v i).secFlag = s.secFlag := rfl
@[simp] theorem accumulate_activeCell (v i : Sample) : (s.accumulate v i).activeCell = s.activeCell := rfl
@[simp] theorem accumulate_kp (v i : Sample) : (s.accumulate v i).kp = s.kp := rfl
@[simp] theorem accumulate_ki (v i : Sample) : (s.accumulate v i).ki = s.ki := rfl
@[simp] theorem accumulate_kd (v i : Sample) : (s.accumulate v i).kd = s.kd := rfl
@[simp] theorem accumulate_errorAcc (v i : Sample) : (s.accumulate v i).errorAcc = s.errorAcc := rfl
@[simp] theorem accumulate_dutyAcc (v i : Sample) : (s.accumulate v i).dutyAcc = s.dutyAcc := rfl
@[simp] theorem accumulate_lastError (v i : Sample) : (s.accumulate v i).lastError = s.lastError := rfl
@[simp] theorem accumulate_iRef (v i : Sample) : (s.accumulate v i).iRef = s.iRef := rfl
@[simp] theorem accumulate_vRef (v i : Sample) : (s.accumulate v i).vRef = s.vRef := rfl
@[simp] theorem accumulate_countdown (v i : Sample) : (s.accumulate v i).countdown = s.countdown := rfl
@[simp] theorem accumulate_seconds (v i : Sample) : (s.accumulate v i).seconds = s.seconds := rfl
@[simp] theorem accumulate_iAcc (v i : Sample) : (s.accumulate v i).iAcc = s.iAcc + i.setWidth 22 := rfl
@[simp] theorem accumulate_vAcc (v i : Sample) : (s.accumulate v i).vAcc = s.vAcc + v.setWidth 22 := rfl
@[simp] theorem accumulate_iAvg (v i : Sample) : (s.accumulate v i).iAvg = s.iAvg := rfl
@[simp] theorem accumulate_vAvg (v i : Sample) : (s.accumulate v i).vAvg = s.vAvg := rfl
@[simp] theorem accumulate_dutyShadow (v i : Sample) : (s.accumulate v i).dutyShadow = s.dutyShadow := rfl
@[simp] theorem accumulate_dutyActive (v i : Sample) : (s.accumulate v i).dutyActive = s.dutyActive := rfl
@[simp] theorem accumulate_out (v i : Sample) : (s.accumulate v i).out = s.out := rfl
@[simp] theorem accumulate_responses (v i : Sample) : (s.accumulate v i).responses = s.responses := rfl
@[simp] theorem accumulate_pending (v i : Sample) : (s.accumulate v i).pending = s.pending := rfl
@[simp] theorem accumulate_resetPending (v i : Sample) : (s.accumulate v i).resetPending = s.resetPending := rfl
@[simp] theorem accumulate_cfg (v i : Sample) : (s.accumulate v i).cfg = s.cfg := rfl

/-! `countDown` -/

@[simp] theorem countDown_running : (s.countDown).running = s.running := rfl
@[simp] theorem countDown_mode : (s.countDown).mode = s.mode := rfl
@[simp] theorem countDown_secFlag : (s.countDown).secFlag = s.secFlag := rfl
@[simp] theorem countDown_activeCell : (s.countDown).activeCell = s.activeCell := rfl
@[simp] theorem countDown_kp : (s.countDown).kp = s.kp := rfl
@[simp] theorem countDown_ki : (s.countDown).ki = s.ki := rfl
@[simp] theorem countDown_kd : (s.countDown).kd = s.kd := rfl
@[simp] theorem countDown_errorAcc : (s.countDown).errorAcc = s.errorAcc := rfl
@[simp] theorem countDown_dutyAcc : (s.countDown).dutyAcc = s.dutyAcc := rfl
@[simp] theorem countDown_lastError : (s.countDown).lastError = s.lastError := rfl
@[simp] theorem countDown_iRef : (s.countDown).iRef = s.iRef := rfl
@[simp] theorem countDown_vRef : (s.countDown).vRef = s.vRef := rfl
@[simp] theorem countDown_countdown : (s.countDown).countdown = s.countdown - 1 := rfl
@[simp] theorem countDown_seconds : (s.countDown).seconds = s.seconds := rfl
@[simp] theorem countDown_iAcc : (s.countDown).iAcc = s.iAcc := rfl
@[simp] theorem countDown_vAcc : (s.countDown).vAcc = s.vAcc := rfl
@[simp] theorem countDown_iAvg : (s.countDown).iAvg = s.iAvg := rfl
@[simp] theorem countDown_vAvg : (s.countDown).vAvg = s.vAvg := rfl
@[simp] theorem countDown_dutyShadow : (s.countDown).dutyShadow = s.dutyShadow := rfl
@[simp] theorem countDown_dutyActive : (s.countDown).dutyActive = s.dutyActive := rfl
@[simp] theorem countDown_out : (s.countDown).out = s.out := rfl
@[simp] theorem countDown_responses : (s.countDown).responses = s.responses := rfl
@[simp] theorem countDown_pending : (s.countDown).pending = s.pending := rfl
@[simp] theorem countDown_resetPending : (s.countDown).resetPending = s.resetPending := rfl
@[simp] theorem countDown_cfg : (s.countDown).cfg = s.cfg := rfl

/-! `closeWindow` -/

@[simp] theorem closeWindow_running : (s.closeWindow).running = s.running := rfl
@[simp] theorem closeWindow_mode : (s.closeWindow).mode = s.mode := rfl
@[simp] theorem closeWindow_secFlag : (s.closeWindow).secFlag = true := rfl
@[simp] theorem closeWindow_activeCell : (s.closeWindow).activeCell = s.activeCell := rfl
@[simp] theorem closeWindow_kp : (s.closeWindow).kp = s.kp := rfl
@[simp] theorem closeWindow_ki : (s.closeWindow).ki = s.ki := rfl
@[simp] theorem closeWindow_kd : (s.closeWindow).kd = s.kd := rfl
@[simp] theorem closeWindow_errorAcc : (s.closeWindow).errorAcc = s.errorAcc := rfl
@[simp] theorem closeWindow_dutyAcc : (s.closeWindow).dutyAcc = s.dutyAcc := rfl
@[simp] theorem closeWindow_lastError : (s.closeWindow).lastError = s.lastError := rfl
@[simp] theorem closeWindow_iRef : (s.closeWindow).iRef = s.iRef := rfl
@[simp] theorem closeWindow_vRef : (s.closeWindow).vRef = s.vRef := rfl
@[simp] theorem closeWindow_countdown : (s.closeWindow).countdown = 1024 := rfl
@[simp] theorem closeWindow_seconds : (s.closeWindow).seconds = s.seconds + 1 := rfl
@[simp] theorem closeWindow_iAcc : (s.closeWindow).iAcc = 0 := rfl
@[simp] theorem closeWindow_vAcc : (s.closeWindow).vAcc = 0 := rfl
@[simp] theorem closeWindow_iAvg : (s.closeWindow).iAvg = average s.iAcc := rfl
@[simp] theorem closeWindow_vAvg : (s.closeWindow).vAvg = average s.vAcc := rfl
@[simp] theorem closeWindow_dutyShadow : (s.closeWindow).dutyShadow = s.dutyShadow := rfl
@[simp] theorem closeWindow_dutyActive : (s.closeWindow).dutyActive = s.dutyActive := rfl
@[simp] theorem closeWindow_out : (s.closeWindow).out = s.out := rfl
@[simp] theorem closeWindow_responses : (s.closeWindow).responses = s.responses := rfl
@[simp] theorem closeWindow_pending : (s.closeWindow).pending = s.pending := rfl
@[simp] theorem closeWindow_resetPending : (s.closeWindow).resetPending = s.resetPending := rfl
@[simp] theorem closeWindow_cfg : (s.closeWindow).cfg = s.cfg := rfl

/-! `piCompute`: the fields the control law leaves alone -/

@[simp] theorem piCompute_running (fb sp : Sample) : (s.piCompute fb sp).running = s.running := rfl
@[simp] theorem piCompute_mode (fb sp : Sample) : (s.piCompute fb sp).mode = s.mode := rfl
@[simp] theorem piCompute_secFlag (fb sp : Sample) : (s.piCompute fb sp).secFlag = s.secFlag := rfl
@[simp] theorem piCompute_activeCell (fb sp : Sample) : (s.piCompute fb sp).activeCell = s.activeCell := rfl
@[simp] theorem piCompute_kp (fb sp : Sample) : (s.piCompute fb sp).kp = s.kp := rfl
@[simp] theorem piCompute_ki (fb sp : Sample) : (s.piCompute fb sp).ki = s.ki := rfl
@[simp] theorem piCompute_kd (fb sp : Sample) : (s.piCompute fb sp).kd = s.kd := rfl
@[simp] theorem piCompute_iRef (fb sp : Sample) : (s.piCompute fb sp).iRef = s.iRef := rfl
@[simp] theorem piCompute_vRef (fb sp : Sample) : (s.piCompute fb sp).vRef = s.vRef := rfl
@[simp] theorem piCompute_countdown (fb sp : Sample) : (s.piCompute fb sp).countdown = s.countdown := rfl
@[simp] theorem piCompute_seconds (fb sp : Sample) : (s.piCompute fb sp).seconds = s.seconds := rfl
@[simp] theorem piCompute_iAcc (fb sp : Sample) : (s.piCompute fb sp).iAcc = s.iAcc := rfl
@[simp] theorem piCompute_vAcc (fb sp : Sample) : (s.piCompute fb sp).vAcc = s.vAcc := rfl
@[simp] theorem piCompute_iAvg (fb sp : Sample) : (s.piCompute fb sp).iAvg = s.iAvg := rfl
@[simp] theorem piCompute_vAvg (fb sp : Sample) : (s.piCompute fb sp).vAvg = s.vAvg := rfl
@[simp] theorem piCompute_dutyShadow (fb sp : Sample) : (s.piCompute fb sp).dutyShadow = s.dutyShadow := rfl
@[simp] theorem piCompute_dutyActive (fb sp : Sample) : (s.piCompute fb sp).dutyActive = s.dutyActive := rfl
@[simp] theorem piCompute_out (fb sp : Sample) : (s.piCompute fb sp).out = s.out := rfl
@[simp] theorem piCompute_responses (fb sp : Sample) : (s.piCompute fb sp).responses = s.responses := rfl
@[simp] theorem piCompute_pending (fb sp : Sample) : (s.piCompute fb sp).pending = s.pending := rfl
@[simp] theorem piCompute_resetPending (fb sp : Sample) : (s.piCompute fb sp).resetPending = s.resetPending := rfl
@[simp] theorem piCompute_cfg (fb sp : Sample) : (s.piCompute fb sp).cfg = s.cfg := rfl

end Sys2Proof.Machine.State
end

