-- ==== Sys2Proof/Laws/Control.lean ====
section
/-! SUPPORT. What the conditional updates leave alone, one lemma per field, and what they do to the fields they write:
mode entry, mode evaluation, the control cycle, and what follows a window close. -/

namespace Sys2Proof.Machine.State

variable (s : State)

/-! `enterMode`: the fields a mode entry leaves alone, and the mode it leads to -/

@[simp] theorem enterMode_running (m : Mode) : (s.enterMode m).running = s.running := by unfold enterMode; split <;> rfl
@[simp] theorem enterMode_secFlag (m : Mode) : (s.enterMode m).secFlag = s.secFlag := by unfold enterMode; split <;> rfl
@[simp] theorem enterMode_activeCell (m : Mode) : (s.enterMode m).activeCell = s.activeCell := by unfold enterMode; split <;> rfl
@[simp] theorem enterMode_dutyAcc (m : Mode) : (s.enterMode m).dutyAcc = s.dutyAcc := by unfold enterMode; split <;> rfl
@[simp] theorem enterMode_lastError (m : Mode) : (s.enterMode m).lastError = s.lastError := by unfold enterMode; split <;> rfl
@[simp] theorem enterMode_iRef (m : Mode) : (s.enterMode m).iRef = s.iRef := by unfold enterMode; split <;> rfl
@[simp] theorem enterMode_vRef (m : Mode) : (s.enterMode m).vRef = s.vRef := by unfold enterMode; split <;> rfl
@[simp] theorem enterMode_countdown (m : Mode) : (s.enterMode m).countdown = s.countdown := by unfold enterMode; split <;> rfl
@[simp] theorem enterMode_seconds (m : Mode) : (s.enterMode m).seconds = s.seconds := by unfold enterMode; split <;> rfl
@[simp] theorem enterMode_iAcc (m : Mode) : (s.enterMode m).iAcc = s.iAcc := by unfold enterMode; split <;> rfl
@[simp] theorem enterMode_vAcc (m : Mode) : (s.enterMode m).vAcc = s.vAcc := by unfold enterMode; split <;> rfl
@[simp] theorem enterMode_iAvg (m : Mode) : (s.enterMode m).iAvg = s.iAvg := by unfold enterMode; split <;> rfl
@[simp] theorem enterMode_vAvg (m : Mode) : (s.enterMode m).vAvg = s.vAvg := by unfold enterMode; split <;> rfl
@[simp] theorem enterMode_dutyShadow (m : Mode) : (s.enterMode m).dutyShadow = s.dutyShadow := by unfold enterMode; split <;> rfl
@[simp] theorem enterMode_dutyActive (m : Mode) : (s.enterMode m).dutyActive = s.dutyActive := by unfold enterMode; split <;> rfl
@[simp] theorem enterMode_out (m : Mode) : (s.enterMode m).out = s.out := by unfold enterMode; split <;> rfl
@[simp] theorem enterMode_responses (m : Mode) : (s.enterMode m).responses = s.responses := by unfold enterMode; split <;> rfl
@[simp] theorem enterMode_pending (m : Mode) : (s.enterMode m).pending = s.pending := by unfold enterMode; split <;> rfl
@[simp] theorem enterMode_resetPending (m : Mode) : (s.enterMode m).resetPending = s.resetPending := by unfold enterMode; split <;> rfl
@[simp] theorem enterMode_cfg (m : Mode) : (s.enterMode m).cfg = s.cfg := by unfold enterMode; split <;> rfl

@[simp] theorem enterMode_mode (m : Mode) : (s.enterMode m).mode = m := by
  unfold enterMode
  split
  · assumption
  · rfl

theorem enterMode_same {m : Mode} (h : s.mode = m) : s.enterMode m = s := if_pos h

theorem enterMode_other {m : Mode} (h : s.mode ≠ m) : s.enterMode m = s.switchMode m := if_neg h

/-! `modeEval`: the fields a mode evaluation leaves alone -/

@[simp] theorem modeEval_running : s.modeEval.running = s.running := by unfold modeEval; split <;> rfl
@[simp] theorem modeEval_secFlag : s.modeEval.secFlag = s.secFlag := by unfold modeEval; split <;> rfl
@[simp] theorem modeEval_activeCell : s.modeEval.activeCell = s.activeCell := by unfold modeEval; split <;> rfl
@[simp] theorem modeEval_dutyAcc : s.modeEval.dutyAcc = s.dutyAcc := by unfold modeEval; split <;> rfl
@[simp] theorem modeEval_lastError : s.modeEval.lastError = s.lastError := by unfold modeEval; split <;> rfl
@[simp] theorem modeEval_iRef : s.modeEval.iRef = s.iRef := by unfold modeEval; split <;> rfl
@[simp] theorem modeEval_vRef : s.modeEval.vRef = s.vRef := by unfold modeEval; split <;> rfl
@[simp] theorem modeEval_countdown : s.modeEval.countdown = s.countdown := by unfold modeEval; split <;> rfl
@[simp] theorem modeEval_seconds : s.modeEval.seconds = s.seconds := by unfold modeEval; split <;> rfl
@[simp] theorem modeEval_iAcc : s.modeEval.iAcc = s.iAcc := by unfold modeEval; split <;> rfl
@[simp] theorem modeEval_vAcc : s.modeEval.vAcc = s.vAcc := by unfold modeEval; split <;> rfl
@[simp] theorem modeEval_iAvg : s.modeEval.iAvg = s.iAvg := by unfold modeEval; split <;> rfl
@[simp] theorem modeEval_vAvg : s.modeEval.vAvg = s.vAvg := by unfold modeEval; split <;> rfl
@[simp] theorem modeEval_dutyShadow : s.modeEval.dutyShadow = s.dutyShadow := by unfold modeEval; split <;> rfl
@[simp] theorem modeEval_dutyActive : s.modeEval.dutyActive = s.dutyActive := by unfold modeEval; split <;> rfl
@[simp] theorem modeEval_out : s.modeEval.out = s.out := by unfold modeEval; split <;> rfl
@[simp] theorem modeEval_responses : s.modeEval.responses = s.responses := by unfold modeEval; split <;> rfl
@[simp] theorem modeEval_pending : s.modeEval.pending = s.pending := by unfold modeEval; split <;> rfl
@[simp] theorem modeEval_resetPending : s.modeEval.resetPending = s.resetPending := by unfold modeEval; split <;> rfl
@[simp] theorem modeEval_cfg : s.modeEval.cfg = s.cfg := by unfold modeEval; split <;> rfl

theorem modeEval_of_due (h : s.crossoverDue = true) : s.modeEval = s.switchMode .cv := if_pos h

theorem modeEval_of_not_due (h : s.crossoverDue = false) : s.modeEval = s := by simp [modeEval, h]

theorem crossoverDue_iff : s.crossoverDue = true ↔ s.mode = .cc ∧ s.vRef.toNat < s.vAvg.toNat := by
  simp [crossoverDue]

/-- A mode evaluation leads to CV or changes nothing. -/
theorem modeEval_cases : (s.mode = .cc ∧ s.vRef.toNat < s.vAvg.toNat ∧ s.modeEval = s.switchMode .cv) ∨
    (¬ (s.mode = .cc ∧ s.vRef.toNat < s.vAvg.toNat) ∧ s.modeEval = s) := by
  by_cases h : s.crossoverDue = true
  · exact .inl ⟨((crossoverDue_iff s).1 h).1, ((crossoverDue_iff s).1 h).2, modeEval_of_due s h⟩
  · exact .inr ⟨fun hc => h ((crossoverDue_iff s).2 hc), modeEval_of_not_due s (by simpa using h)⟩

/-! `controlCycle`: the fields a control cycle leaves alone -/

@[simp] theorem controlCycle_running : s.controlCycle.running = s.running := by simp [controlCycle, regulate]
@[simp] theorem controlCycle_secFlag : s.controlCycle.secFlag = s.secFlag := by simp [controlCycle, regulate]
@[simp] theorem controlCycle_activeCell : s.controlCycle.activeCell = s.activeCell := by simp [controlCycle, regulate]
@[simp] theorem controlCycle_iRef : s.controlCycle.iRef = s.iRef := by simp [controlCycle, regulate]
@[simp] theorem controlCycle_vRef : s.controlCycle.vRef = s.vRef := by simp [controlCycle, regulate]
@[simp] theorem controlCycle_countdown : s.controlCycle.countdown = s.countdown := by simp [controlCycle, regulate]
@[simp] theorem controlCycle_seconds : s.controlCycle.seconds = s.seconds := by simp [controlCycle, regulate]
@[simp] theorem controlCycle_iAcc : s.controlCycle.iAcc = s.iAcc := by simp [controlCycle, regulate]
@[simp] theorem controlCycle_vAcc : s.controlCycle.vAcc = s.vAcc := by simp [controlCycle, regulate]
@[simp] theorem controlCycle_iAvg : s.controlCycle.iAvg = s.iAvg := by simp [controlCycle, regulate]
@[simp] theorem controlCycle_vAvg : s.controlCycle.vAvg = s.vAvg := by simp [controlCycle, regulate]
@[simp] theorem controlCycle_dutyActive : s.controlCycle.dutyActive = s.dutyActive := by simp [controlCycle, regulate]
@[simp] theorem controlCycle_responses : s.controlCycle.responses = s.responses := by simp [controlCycle, regulate]
@[simp] theorem controlCycle_pending : s.controlCycle.pending = s.pending := by simp [controlCycle, regulate]
@[simp] theorem controlCycle_resetPending : s.controlCycle.resetPending = s.resetPending := by simp [controlCycle, regulate]
@[simp] theorem controlCycle_cfg : s.controlCycle.cfg = s.cfg := by simp [controlCycle, regulate]

theorem regulate_out : s.regulate.out = s.out := by simp [regulate]

theorem controlCycle_eq : s.controlCycle = s.regulate.dutyWrite (F32.trunc9 s.regulate.dutyAcc) := rfl

@[simp] theorem controlCycle_dutyAcc : s.controlCycle.dutyAcc = s.regulate.dutyAcc := by
  rw [controlCycle_eq, dutyWrite_dutyAcc]

@[simp] theorem controlCycle_lastError : s.controlCycle.lastError = s.regulate.lastError := by
  rw [controlCycle_eq, dutyWrite_lastError]

@[simp] theorem controlCycle_errorAcc : s.controlCycle.errorAcc = s.regulate.errorAcc := by
  rw [controlCycle_eq, dutyWrite_errorAcc]

@[simp] theorem controlCycle_out : s.controlCycle.out = s.out ++ [.setDuty (F32.trunc9 s.regulate.dutyAcc)] := by
  rw [controlCycle_eq, dutyWrite_out, regulate_out]

@[simp] theorem controlCycle_dutyShadow : s.controlCycle.dutyShadow = F32.trunc9 s.regulate.dutyAcc := by
  rw [controlCycle_eq, dutyWrite_dutyShadow]

@[simp] theorem controlCycle_mode : s.controlCycle.mode = s.modeEval.mode := rfl

@[simp] theorem controlCycle_kp : s.controlCycle.kp = s.modeEval.kp := rfl

@[simp] theorem controlCycle_ki : s.controlCycle.ki = s.modeEval.ki := rfl

@[simp] theorem controlCycle_kd : s.controlCycle.kd = s.modeEval.kd := rfl

/-! `afterClose`: the fields it leaves alone -/

@[simp] theorem afterClose_running : s.afterClose.running = s.running := by unfold afterClose; split <;> simp
@[simp] theorem afterClose_secFlag : s.afterClose.secFlag = s.secFlag := by unfold afterClose; split <;> simp
@[simp] theorem afterClose_activeCell : s.afterClose.activeCell = s.activeCell := by unfold afterClose; split <;> simp
@[simp] theorem afterClose_iRef : s.afterClose.iRef = s.iRef := by unfold afterClose; split <;> simp
@[simp] theorem afterClose_vRef : s.afterClose.vRef = s.vRef := by unfold afterClose; split <;> simp
@[simp] theorem afterClose_countdown : s.afterClose.countdown = s.countdown := by unfold afterClose; split <;> simp
@[simp] theorem afterClose_seconds : s.afterClose.seconds = s.seconds := by unfold afterClose; split <;> simp
@[simp] theorem afterClose_iAcc : s.afterClose.iAcc = s.iAcc := by unfold afterClose; split <;> simp
@[simp] theorem afterClose_vAcc : s.afterClose.vAcc = s.vAcc := by unfold afterClose; split <;> simp
@[simp] theorem afterClose_iAvg : s.afterClose.iAvg = s.iAvg := by unfold afterClose; split <;> simp
@[simp] theorem afterClose_vAvg : s.afterClose.vAvg = s.vAvg := by unfold afterClose; split <;> simp
@[simp] theorem afterClose_dutyActive : s.afterClose.dutyActive = s.dutyActive := by unfold afterClose; split <;> simp
@[simp] theorem afterClose_responses : s.afterClose.responses = s.responses := by unfold afterClose; split <;> simp
@[simp] theorem afterClose_pending : s.afterClose.pending = s.pending := by unfold afterClose; split <;> simp
@[simp] theorem afterClose_resetPending : s.afterClose.resetPending = s.resetPending := by unfold afterClose; split <;> simp
@[simp] theorem afterClose_cfg : s.afterClose.cfg = s.cfg := by unfold afterClose; split <;> simp

theorem afterClose_of_running (h : s.running = true) : s.afterClose = s.controlCycle := if_pos h

theorem afterClose_of_stopped (h : s.running = false) : s.afterClose = s := by simp [afterClose, h]

end Sys2Proof.Machine.State
end

