-- ==== Sys2Proof/Laws/Decode.lean ====
section
/-! SUPPORT. The fields of a command word as numbers, and the number an encoded instruction is: with these a question
about words becomes linear arithmetic. -/

namespace Sys2Proof

theorem opField_toNat (w : Word) : (opField w).toNat = w.toNat / 2 ^ 28 := by
  have := w.isLt
  simp [opField, BitVec.extractLsb', Nat.shiftRight_eq_div_pow]; omega

theorem rsvFieldN_toNat (w : Word) : (rsvFieldN w).toNat = w.toNat % 2 ^ 28 := by
  simp [rsvFieldN, BitVec.extractLsb']

theorem rsvFieldT_toNat (w : Word) : (rsvFieldT w).toNat = w.toNat / 2 ^ 24 % 2 ^ 4 := by
  simp [rsvFieldT, BitVec.extractLsb', Nat.shiftRight_eq_div_pow]

theorem rsvFieldS_toNat (w : Word) : (rsvFieldS w).toNat = w.toNat / 2 ^ 12 % 2 ^ 16 := by
  simp [rsvFieldS, BitVec.extractLsb', Nat.shiftRight_eq_div_pow]

theorem rsvFieldR_toNat (w : Word) : (rsvFieldR w).toNat = w.toNat / 2 ^ 8 % 2 ^ 20 := by
  simp [rsvFieldR, BitVec.extractLsb', Nat.shiftRight_eq_div_pow]

theorem vField_toNat (w : Word) : (vField w).toNat = w.toNat / 2 ^ 12 % 2 ^ 12 := by
  simp [vField, BitVec.extractLsb', Nat.shiftRight_eq_div_pow]

theorem iField_toNat (w : Word) : (iField w).toNat = w.toNat % 2 ^ 12 := by
  simp [iField, BitVec.extractLsb']

theorem refField_toNat (w : Word) : (refField w).toNat = w.toNat % 2 ^ 12 := by
  simp [refField, BitVec.extractLsb']

theorem idxField_toNat (w : Word) : (idxField w).toNat = w.toNat % 2 ^ 8 := by
  simp [idxField, BitVec.extractLsb']

theorem append_toNat {n m : Nat} (a : BitVec n) (b : BitVec m) : (a ++ b).toNat = a.toNat * 2 ^ m + b.toNat := by
  rw [BitVec.toNat_append, Nat.shiftLeft_eq, Nat.mul_comm, Nat.two_pow_add_eq_or_of_lt b.isLt]

/-- The number an instruction is encoded as: its opcode and its operands at their places (30_encoding.md R103). -/
def encodedNumber : Instr → Nat
  | .tick v i    => 1 * 2 ^ 28 + v.toNat * 2 ^ 12 + i.toNat
  | .pwmLoad     => 2 * 2 ^ 28
  | .start       => 3 * 2 ^ 28
  | .stop        => 4 * 2 ^ 28
  | .setIref ref => 5 * 2 ^ 28 + ref.toNat
  | .setVref ref => 6 * 2 ^ 28 + ref.toNat
  | .clrSec      => 7 * 2 ^ 28
  | .read idx    => 8 * 2 ^ 28 + idx.toNat

theorem encode_toNat (i : Instr) : (encode i).toNat = encodedNumber i := by
  cases i <;> simp only [encode, formatN, formatS, append_toNat, encodedNumber, BitVec.toNat_ofNat,
    BitVec.ofNat_eq_ofNat] <;> omega

theorem whenReservedZero_ok {b : Bool} {i j : Instr} : whenReservedZero b i = .ok j ↔ b = true ∧ i = j := by
  cases b <;> simp [whenReservedZero]

theorem assignedIndex_iff (idx : Byte) : assignedIndex idx = true ↔ idx.toNat < 0x11 := by
  simp [assignedIndex, firstUnassignedIndex]

/-- A word written to a table of 32 bits is the word. -/
theorem tableWord_toNat (w : Word) : tableWord 32 w.toNat = w := by
  apply BitVec.eq_of_toNat_eq
  have := w.isLt
  simp only [tableWord, BitVec.toNat_ofNat]
  omega

end Sys2Proof
end

