-- ==== Sys2Proof/Laws/Fetch.lean ====
section
/-! SUPPORT. What the outside does to the state, one lemma per field, each true by `rfl`: the arrival of a cycle's words,
the reset request, and the placing of a word. -/

namespace Sys2Proof.Machine.State

variable (s : State)

/-! `arrive` -/

@[simp] theorem arrive_running (c : Cycle) : (s.arrive c).running = s.running := rfl
@[simp] theorem arrive_mode (c : Cycle) : (s.arrive c).mode = s.mode := rfl
@[simp] theorem arrive_secFlag (c : Cycle) : (s.arrive c).secFlag = s.secFlag := rfl
@[simp] theorem arrive_activeCell (c : Cycle) : (s.arrive c).activeCell = s.activeCell := rfl
@[simp] theorem arrive_kp (c : Cycle) : (s.arrive c).kp = s.kp := rfl
@[simp] theorem arrive_ki (c : Cycle) : (s.arrive c).ki = s.ki := rfl
@[simp] theorem arrive_kd (c : Cycle) : (s.arrive c).kd = s.kd := rfl
@[simp] theorem arrive_errorAcc (c : Cycle) : (s.arrive c).errorAcc = s.errorAcc := rfl
@[simp] theorem arrive_dutyAcc (c : Cycle) : (s.arrive c).dutyAcc = s.dutyAcc := rfl
@[simp] theorem arrive_lastError (c : Cycle) : (s.arrive c).lastError = s.lastError := rfl
@[simp] theorem arrive_iRef (c : Cycle) : (s.arrive c).iRef = s.iRef := rfl
@[simp] theorem arrive_vRef (c : Cycle) : (s.arrive c).vRef = s.vRef := rfl
@[simp] theorem arrive_countdown (c : Cycle) : (s.arrive c).countdown = s.countdown := rfl
@[simp] theorem arrive_seconds (c : Cycle) : (s.arrive c).seconds = s.seconds := rfl
@[simp] theorem arrive_iAcc (c : Cycle) : (s.arrive c).iAcc = s.iAcc := rfl
@[simp] theorem arrive_vAcc (c : Cycle) : (s.arrive c).vAcc = s.vAcc := rfl
@[simp] theorem arrive_iAvg (c : Cycle) : (s.arrive c).iAvg = s.iAvg := rfl
@[simp] theorem arrive_vAvg (c : Cycle) : (s.arrive c).vAvg = s.vAvg := rfl
@[simp] theorem arrive_dutyShadow (c : Cycle) : (s.arrive c).dutyShadow = s.dutyShadow := rfl
@[simp] theorem arrive_dutyActive (c : Cycle) : (s.arrive c).dutyActive = s.dutyActive := rfl
@[simp] theorem arrive_out (c : Cycle) : (s.arrive c).out = s.out := rfl
@[simp] theorem arrive_responses (c : Cycle) : (s.arrive c).responses = s.responses := rfl
@[simp] theorem arrive_pending (c : Cycle) : (s.arrive c).pending = s.pending ++ cycleInputs c := rfl
@[simp] theorem arrive_resetPending (c : Cycle) : (s.arrive c).resetPending = s.resetPending := rfl
@[simp] theorem arrive_cfg (c : Cycle) : (s.arrive c).cfg = s.cfg := rfl

/-! `requestReset` -/

@[simp] theorem requestReset_running : (s.requestReset).running = s.running := rfl
@[simp] theorem requestReset_mode : (s.requestReset).mode = s.mode := rfl
@[simp] theorem requestReset_secFlag : (s.requestReset).secFlag = s.secFlag := rfl
@[simp] theorem requestReset_activeCell : (s.requestReset).activeCell = s.activeCell := rfl
@[simp] theorem requestReset_kp : (s.requestReset).kp = s.kp := rfl
@[simp] theorem requestReset_ki : (s.requestReset).ki = s.ki := rfl
@[simp] theorem requestReset_kd : (s.requestReset).kd = s.kd := rfl
@[simp] theorem requestReset_errorAcc : (s.requestReset).errorAcc = s.errorAcc := rfl
@[simp] theorem requestReset_dutyAcc : (s.requestReset).dutyAcc = s.dutyAcc := rfl
@[simp] theorem requestReset_lastError : (s.requestReset).lastError = s.lastError := rfl
@[simp] theorem requestReset_iRef : (s.requestReset).iRef = s.iRef := rfl
@[simp] theorem requestReset_vRef : (s.requestReset).vRef = s.vRef := rfl
@[simp] theorem requestReset_countdown : (s.requestReset).countdown = s.countdown := rfl
@[simp] theorem requestReset_seconds : (s.requestReset).seconds = s.seconds := rfl
@[simp] theorem requestReset_iAcc : (s.requestReset).iAcc = s.iAcc := rfl
@[simp] theorem requestReset_vAcc : (s.requestReset).vAcc = s.vAcc := rfl
@[simp] theorem requestReset_iAvg : (s.requestReset).iAvg = s.iAvg := rfl
@[simp] theorem requestReset_vAvg : (s.requestReset).vAvg = s.vAvg := rfl
@[simp] theorem requestReset_dutyShadow : (s.requestReset).dutyShadow = s.dutyShadow := rfl
@[simp] theorem requestReset_dutyActive : (s.requestReset).dutyActive = s.dutyActive := rfl
@[simp] theorem requestReset_out : (s.requestReset).out = s.out := rfl
@[simp] theorem requestReset_responses : (s.requestReset).responses = s.responses := rfl
@[simp] theorem requestReset_pending : (s.requestReset).pending = s.pending := rfl
@[simp] theorem requestReset_resetPending : (s.requestReset).resetPending = true := rfl
@[simp] theorem requestReset_cfg : (s.requestReset).cfg = s.cfg := rfl

/-! `withFetchWord` -/

@[simp] theorem withFetchWord_running (nbits w : Nat) : (s.withFetchWord nbits w).running = s.running := rfl
@[simp] theorem withFetchWord_mode (nbits w : Nat) : (s.withFetchWord nbits w).mode = s.mode := rfl
@[simp] theorem withFetchWord_secFlag (nbits w : Nat) : (s.withFetchWord nbits w).secFlag = s.secFlag := rfl
@[simp] theorem withFetchWord_activeCell (nbits w : Nat) : (s.withFetchWord nbits w).activeCell = s.activeCell := rfl
@[simp] theorem withFetchWord_kp (nbits w : Nat) : (s.withFetchWord nbits w).kp = s.kp := rfl
@[simp] theorem withFetchWord_ki (nbits w : Nat) : (s.withFetchWord nbits w).ki = s.ki := rfl
@[simp] theorem withFetchWord_kd (nbits w : Nat) : (s.withFetchWord nbits w).kd = s.kd := rfl
@[simp] theorem withFetchWord_errorAcc (nbits w : Nat) : (s.withFetchWord nbits w).errorAcc = s.errorAcc := rfl
@[simp] theorem withFetchWord_dutyAcc (nbits w : Nat) : (s.withFetchWord nbits w).dutyAcc = s.dutyAcc := rfl
@[simp] theorem withFetchWord_lastError (nbits w : Nat) : (s.withFetchWord nbits w).lastError = s.lastError := rfl
@[simp] theorem withFetchWord_iRef (nbits w : Nat) : (s.withFetchWord nbits w).iRef = s.iRef := rfl
@[simp] theorem withFetchWord_vRef (nbits w : Nat) : (s.withFetchWord nbits w).vRef = s.vRef := rfl
@[simp] theorem withFetchWord_countdown (nbits w : Nat) : (s.withFetchWord nbits w).countdown = s.countdown := rfl
@[simp] theorem withFetchWord_seconds (nbits w : Nat) : (s.withFetchWord nbits w).seconds = s.seconds := rfl
@[simp] theorem withFetchWord_iAcc (nbits w : Nat) : (s.withFetchWord nbits w).iAcc = s.iAcc := rfl
@[simp] theorem withFetchWord_vAcc (nbits w : Nat) : (s.withFetchWord nbits w).vAcc = s.vAcc := rfl
@[simp] theorem withFetchWord_iAvg (nbits w : Nat) : (s.withFetchWord nbits w).iAvg = s.iAvg := rfl
@[simp] theorem withFetchWord_vAvg (nbits w : Nat) : (s.withFetchWord nbits w).vAvg = s.vAvg := rfl
@[simp] theorem withFetchWord_dutyShadow (nbits w : Nat) : (s.withFetchWord nbits w).dutyShadow = s.dutyShadow := rfl
@[simp] theorem withFetchWord_dutyActive (nbits w : Nat) : (s.withFetchWord nbits w).dutyActive = s.dutyActive := rfl
@[simp] theorem withFetchWord_out (nbits w : Nat) : (s.withFetchWord nbits w).out = s.out := rfl
@[simp] theorem withFetchWord_responses (nbits w : Nat) : (s.withFetchWord nbits w).responses = s.responses := rfl
@[simp] theorem withFetchWord_pending (nbits w : Nat) : (s.withFetchWord nbits w).pending = Input.ofWord (tableWord nbits w) :: s.pending := rfl
@[simp] theorem withFetchWord_resetPending (nbits w : Nat) : (s.withFetchWord nbits w).resetPending = false := rfl
@[simp] theorem withFetchWord_cfg (nbits w : Nat) : (s.withFetchWord nbits w).cfg = s.cfg := rfl

/-! The words of one cycle, port by port (20_memory.md R76) -/

@[simp] theorem cycleInputs_all (v i : Sample) (w : Word) :
    cycleInputs ⟨some (v, i), true, some w⟩ = [.tick v i, .timebase, .host w] := rfl

@[simp] theorem cycleInputs_tick_timebase (v i : Sample) :
    cycleInputs ⟨some (v, i), true, none⟩ = [.tick v i, .timebase] := rfl

@[simp] theorem cycleInputs_tick_host (v i : Sample) (w : Word) :
    cycleInputs ⟨some (v, i), false, some w⟩ = [.tick v i, .host w] := rfl

@[simp] theorem cycleInputs_timebase_host (w : Word) : cycleInputs ⟨none, true, some w⟩ = [.timebase, .host w] := rfl

end Sys2Proof.Machine.State
end

