-- ==== Sys2Proof/Laws/PerInstr.lean ====
section
/-! SUPPORT. Families of statements made once per instruction. -/

namespace Sys2Proof.Laws.EncodedFields

/-- The word of an instruction has its row's opcode, zeros in its format's reserved field, and its operands at their
places as they stand (30_encoding.md R91–R96, R102, R103). -/
def Statement (i : Instr) : Prop :=
  let w := encode i
  match i with
  | .tick v c    => (opField w).toNat = 0x1 ∧ (rsvFieldT w).toNat = 0 ∧ vField w = v ∧ iField w = c
  | .pwmLoad     => (opField w).toNat = 0x2 ∧ (rsvFieldN w).toNat = 0
  | .start       => (opField w).toNat = 0x3 ∧ (rsvFieldN w).toNat = 0
  | .stop        => (opField w).toNat = 0x4 ∧ (rsvFieldN w).toNat = 0
  | .setIref ref => (opField w).toNat = 0x5 ∧ (rsvFieldS w).toNat = 0 ∧ refField w = ref
  | .setVref ref => (opField w).toNat = 0x6 ∧ (rsvFieldS w).toNat = 0 ∧ refField w = ref
  | .clrSec      => (opField w).toNat = 0x7 ∧ (rsvFieldN w).toNat = 0
  | .read idx    => (opField w).toNat = 0x8 ∧ (rsvFieldR w).toNat = 0 ∧ idxField w = idx

theorem tick (v i : Sample) : Statement (.tick v i) := by
  have h := encode_toNat (.tick v i)
  have hv := v.isLt
  have hi := i.isLt
  simp only [encodedNumber] at h
  refine ⟨?_, ?_, BitVec.eq_of_toNat_eq ?_, BitVec.eq_of_toNat_eq ?_⟩
  · rw [opField_toNat, h]; omega
  · rw [rsvFieldT_toNat, h]; omega
  · rw [vField_toNat, h]; omega
  · rw [iField_toNat, h]; omega

theorem pwmLoad : Statement .pwmLoad := ⟨rfl, rfl⟩

theorem start : Statement .start := ⟨rfl, rfl⟩

theorem stop : Statement .stop := ⟨rfl, rfl⟩

theorem setIref (ref : Sample) : Statement (.setIref ref) := by
  have h := encode_toNat (.setIref ref)
  have hr := ref.isLt
  simp only [encodedNumber] at h
  refine ⟨?_, ?_, BitVec.eq_of_toNat_eq ?_⟩
  · rw [opField_toNat, h]; omega
  · rw [rsvFieldS_toNat, h]; omega
  · rw [refField_toNat, h]; omega

theorem setVref (ref : Sample) : Statement (.setVref ref) := by
  have h := encode_toNat (.setVref ref)
  have hr := ref.isLt
  simp only [encodedNumber] at h
  refine ⟨?_, ?_, BitVec.eq_of_toNat_eq ?_⟩
  · rw [opField_toNat, h]; omega
  · rw [rsvFieldS_toNat, h]; omega
  · rw [refField_toNat, h]; omega

theorem clrSec : Statement .clrSec := ⟨rfl, rfl⟩

theorem read (idx : Byte) : Statement (.read idx) := by
  have h := encode_toNat (.read idx)
  have hx := idx.isLt
  simp only [encodedNumber] at h
  refine ⟨?_, ?_, BitVec.eq_of_toNat_eq ?_⟩
  · rw [opField_toNat, h]; omega
  · rw [rsvFieldR_toNat, h]; omega
  · rw [idxField_toNat, h]; omega

end Sys2Proof.Laws.EncodedFields
end

