-- ==== Sys2Proof/Laws/Step.lean ====
section
/-! SUPPORT. What the meaning of each instruction and a step can do, said once: later proofs cite these and do not unfold
the definitions again. -/

namespace Sys2Proof.Machine

theorem sub_one_eq_zero_iff (c : Countdown) : c - 1 = 0 ↔ c = 1 := by
  constructor <;> intro h <;> bv_omega

/-- A TICK inside a window. -/
theorem exec_tick_inside {s : State} (v c : Sample) (h : s.countdown ≠ 1) :
    exec (.tick v c) s = .next (s.accumulate v c).countDown :=
  congrArg Host.Outcome.next (if_neg fun h' => h ((sub_one_eq_zero_iff _).1 h'))

/-- A TICK that closes the window. -/
theorem exec_tick_closing {s : State} (v c : Sample) (h : s.countdown = 1) :
    exec (.tick v c) s = .next (s.accumulate v c).countDown.closeWindow.afterClose :=
  congrArg Host.Outcome.next (if_pos ((sub_one_eq_zero_iff _).2 h))

theorem exec_pwmLoad (s : State) : exec .pwmLoad s = .next { s with dutyActive := s.dutyShadow } := rfl

theorem exec_setIref (ref : Sample) (s : State) :
    exec (.setIref ref) s = .next ({ s with iRef := ref }.enterMode .cc).accept := rfl

theorem exec_setVref (ref : Sample) (s : State) :
    exec (.setVref ref) s = .next ({ s with vRef := ref }.enterMode .cv).accept := rfl

theorem exec_clrSec (s : State) : exec .clrSec s = .next s.clearSecFlag.accept := rfl

/-- READ answers with the register's word or rejects the index; either way only the responses change. -/
theorem exec_read (idx : Byte) (s : State) :
    (∃ data, s.regval idx = some data ∧ exec (.read idx) s = .next (s.respond true data)) ∨
    (s.regval idx = none ∧ exec (.read idx) s = .next (s.reject .badIndex)) := by
  cases h : s.regval idx with
  | some data => exact .inl ⟨data, rfl, by simp [exec, execRead, h]⟩
  | none => exact .inr ⟨rfl, by simp [exec, execRead, h]⟩

/-- Everything an instruction can do, START and STOP as their sequences. -/
theorem exec_cases {i : Instr} {s t : State} (h : exec i s = .next t) :
    (∃ v c, i = .tick v c ∧ s.countdown ≠ 1 ∧ t = (s.accumulate v c).countDown) ∨
    (∃ v c, i = .tick v c ∧ s.countdown = 1 ∧ t = (s.accumulate v c).countDown.closeWindow.afterClose) ∨
    (i = .pwmLoad ∧ t = { s with dutyActive := s.dutyShadow }) ∨
    (i = .start ∧ execStart s = .next t) ∨
    (i = .stop ∧ execStop s = .next t) ∨
    (∃ ref, i = .setIref ref ∧ t = (({ s with iRef := ref } : State).enterMode .cc).accept) ∨
    (∃ ref, i = .setVref ref ∧ t = (({ s with vRef := ref } : State).enterMode .cv).accept) ∨
    (i = .clrSec ∧ t = s.clearSecFlag.accept) ∨
    (∃ idx ok data, i = .read idx ∧ t = s.respond ok data) := by
  cases i with
  | tick v c =>
    by_cases hc : s.countdown = 1
    · rw [exec_tick_closing v c hc] at h; cases h; exact .inr (.inl ⟨v, c, rfl, hc, rfl⟩)
    · rw [exec_tick_inside v c hc] at h; cases h; exact .inl ⟨v, c, rfl, hc, rfl⟩
  | pwmLoad => cases h; exact .inr (.inr (.inl ⟨rfl, rfl⟩))
  | start => exact .inr (.inr (.inr (.inl ⟨rfl, h⟩)))
  | stop => exact .inr (.inr (.inr (.inr (.inl ⟨rfl, h⟩))))
  | setIref ref => cases h; exact .inr (.inr (.inr (.inr (.inr (.inl ⟨ref, rfl, rfl⟩)))))
  | setVref ref => cases h; exact .inr (.inr (.inr (.inr (.inr (.inr (.inl ⟨ref, rfl, rfl⟩))))))
  | clrSec => cases h; exact .inr (.inr (.inr (.inr (.inr (.inr (.inr (.inl ⟨rfl, rfl⟩)))))))
  | read idx =>
    refine .inr (.inr (.inr (.inr (.inr (.inr (.inr (.inr ?_)))))))
    obtain ⟨data, -, h'⟩ | ⟨-, h'⟩ := exec_read idx s <;> rw [h'] at h <;> cases h
    · exact ⟨idx, _, _, rfl, rfl⟩
    · exact ⟨idx, _, _, rfl, rfl⟩

/-- Everything a step can do. -/
theorem step_cases {s t : State} (h : step s = .next t) :
    (s.resetPending = true ∧ t = State.powerOn s.cfg) ∨
    (s.resetPending = false ∧ s.pending = [] ∧ t = s) ∨
    (∃ x rest cause, s.resetPending = false ∧ s.pending = x :: rest ∧ dispatch x.port x.word = .error cause ∧
      t = ({ s with pending := rest } : State).reject cause) ∨
    (∃ x rest i, s.resetPending = false ∧ s.pending = x :: rest ∧ dispatch x.port x.word = .ok i ∧
      exec i { s with pending := rest } = .next t) := by
  cases hr : s.resetPending with
  | true =>
    simp only [step, State.fetch, hr, if_true, Host.Outcome.next.injEq] at h
    exact .inl ⟨rfl, h.symm⟩
  | false =>
    cases hp : s.pending with
    | nil =>
      simp only [step, State.fetch, hr, hp, Bool.false_eq_true, if_false, Host.Outcome.next.injEq] at h
      exact .inr (.inl ⟨rfl, rfl, h.symm⟩)
    | cons x rest =>
      cases hd : dispatch x.port x.word with
      | error cause =>
        simp only [step, State.fetch, hr, hp, hd, Bool.false_eq_true, if_false, Host.Outcome.next.injEq] at h
        exact .inr (.inr (.inl ⟨x, rest, cause, rfl, rfl, hd, h.symm⟩))
      | ok i =>
        simp only [step, State.fetch, hr, hp, hd, Bool.false_eq_true, if_false] at h
        exact .inr (.inr (.inr ⟨x, rest, i, rfl, rfl, hd, h⟩))

/-- A step on a word that dispatches to an instruction is that instruction's meaning. -/
theorem step_of_dispatch_ok {s : State} {x : Input} {rest : List Input} {i : Instr} (hr : s.resetPending = false)
    (hp : s.pending = x :: rest) (hd : dispatch x.port x.word = .ok i) :
    step s = exec i { s with pending := rest } := by
  simp [step, State.fetch, hr, hp, hd]

/-- A step on a word that dispatch rejects answers with the cause. -/
theorem step_of_dispatch_error {s : State} {x : Input} {rest : List Input} {cause : Cause} (hr : s.resetPending = false)
    (hp : s.pending = x :: rest) (hd : dispatch x.port x.word = .error cause) :
    step s = .next (({ s with pending := rest } : State).reject cause) := by
  simp [step, State.fetch, hr, hp, hd]

end Sys2Proof.Machine
end

