-- ==== Sys2Proof/Tests/Slice0.lean ====
section
/-! SUPPORT. Tests: words written out from the spec's encodings, vectors of 95_test_vectors.md (each named in its
theorem's docstring), and for each obligation with hypotheses a state and operands that meet them. -/

namespace Sys2Proof.Tests

open Sys2Proof.Machine

/-! ### Test configurations (95_test_vectors.md section 2) -/

/-- TC1. -/
def tc1 : Config :=
  ⟨⟨0, 511, 0xC47A0000, 0x447A0000, 0x3F000000, 0x3E800000, 0x3E000000, 0x3F800000, 0x3F000000, 0x3D800000⟩, by decide⟩

/-- TC2. -/
def tc2 : Config :=
  ⟨⟨20, 400, 0xC2480000, 0x42480000, 0x3F000000, 0x3E800000, 0x3E000000, 0x3F800000, 0x3F000000, 0x3D800000⟩, by decide⟩

/-- TC3. -/
def tc3 : Config :=
  ⟨⟨10, 500, 0xC47A0000, 0x447A0000, 0x7F61B1E6, 0x7F61B1E6, 0x7F61B1E6, 0x3F800000, 0x3F800000, 0x3F800000⟩, by decide⟩

/-- TC4. -/
def tc4 : Config :=
  ⟨⟨0, 511, 0xBDCCCCCD, 0x3DCCCCCD, 0x3F000000, 0x3E800000, 0x3E000000, 0x3F800000, 0x3F000000, 0x3D800000⟩, by decide⟩

/-- The block at power-on under TC1. -/
def s1 : State := State.powerOn tc1

/-- The block at power-on under TC2. -/
def s2 : State := State.powerOn tc2

/-- `s` with the words `xs` waiting. -/
def waiting (xs : List Input) (s : State) : State := { s with pending := xs }

/-- Does the outcome go on, to a state that meets `p`? -/
def goesOnTo (o : Host.Outcome State Fault Refusal) (p : State → Bool) : Bool :=
  match o with
  | .next t => p t
  | _       => false

/-- Does the host word `w` get the response `(ok, data)` and change nothing else of the power-on state? -/
def answers (w : Word) (ok : Bool) (data : Word) : Bool :=
  goesOnTo (step (waiting [.host w] s1)) fun t => t == { s1 with responses := [⟨ok, data⟩] }

/-! ### Well-formedness: an ill-formed term for each check -/

theorem test_wf_read_of_unassigned_index_refused :
    (Instr.read 0x10).wellFormed = true ∧ (Instr.read 0x11).wellFormed = false ∧
    (Instr.read 0xFF).wellFormed = false := by decide

theorem test_wf_duty_bounds_refused :
    Config.ofParameters { tc1.params with dcMin := 2, dcMax := 1 } = none ∧
    Config.ofParameters { tc1.params with dcMax := 512 } = none ∧
    (Config.ofParameters { tc1.params with dcMin := 511, dcMax := 511 }).isSome = true := by decide

theorem test_wf_error_bounds_refused :
    Config.ofParameters { tc1.params with errMin := 0x7FC00000 } = none ∧
    Config.ofParameters { tc1.params with errMin := 0xFF800000 } = none ∧
    Config.ofParameters { tc1.params with errMax := 0x7F800000 } = none ∧
    Config.ofParameters { tc1.params with errMin := 0x447A0001 } = none := by decide

theorem test_wf_gains_refused :
    Config.ofParameters { tc1.params with kpCC := 0x7F800000 } = none ∧
    Config.ofParameters { tc1.params with kiCC := 0xFF800000 } = none ∧
    Config.ofParameters { tc1.params with kdCC := 0x7FC00000 } = none ∧
    Config.ofParameters { tc1.params with kpCV := 0x7F800000 } = none ∧
    Config.ofParameters { tc1.params with kiCV := 0xFF800000 } = none ∧
    Config.ofParameters { tc1.params with kdCV := 0xFFFFFFFF } = none := by decide

/-! ### Decoding: words written out bit by bit from 30_encoding.md R92–R96 -/

theorem test_decode_tick : decode (0b0001_0000_001111101000_100000000000 : Word) = .ok (.tick 1000 2048) := rfl

theorem test_decode_pwm_load : decode (0b0010_0000000000000000000000000000 : Word) = .ok .pwmLoad := rfl

theorem test_decode_start : decode (0b0011_0000000000000000000000000000 : Word) = .ok .start := rfl

theorem test_decode_stop : decode (0b0100_0000000000000000000000000000 : Word) = .ok .stop := rfl

theorem test_decode_set_iref : decode (0b0101_0000000000000000_000010100100 : Word) = .ok (.setIref 164) := rfl

theorem test_decode_set_vref : decode (0b0110_0000000000000000_110101110000 : Word) = .ok (.setVref 3440) := rfl

theorem test_decode_clr_sec : decode (0b0111_0000000000000000000000000000 : Word) = .ok .clrSec := rfl

theorem test_decode_read : decode (0b1000_00000000000000000000_00010000 : Word) = .ok (.read 0x10) := rfl

/-- One reserved bit set, at either end of each format's reserved field, and the reserved opcodes (R96). -/
theorem test_decode_refuses_words_of_no_row :
    decode 0x11000000 = .error .reservedField ∧ decode 0x18000000 = .error .reservedField ∧
    decode 0x20000001 = .error .reservedField ∧ decode 0x38000000 = .error .reservedField ∧
    decode 0x40000001 = .error .reservedField ∧ decode 0x50001000 = .error .reservedField ∧
    decode 0x68000000 = .error .reservedField ∧ decode 0x70000001 = .error .reservedField ∧
    decode 0x80000100 = .error .reservedField ∧ decode 0x88000000 = .error .reservedField ∧
    decode 0x00000000 = .error .reservedOpcode ∧ decode 0x90000000 = .error .reservedOpcode ∧
    decode 0xF0000000 = .error .reservedOpcode := ⟨rfl, rfl, rfl, rfl, rfl, rfl, rfl, rfl, rfl, rfl, rfl, rfl, rfl⟩

/-- The encodings of R103. -/
theorem test_encode_words :
    encode (.tick 1000 2048) = 0x103E8800 ∧ encode .pwmLoad = 0x20000000 ∧ encode .start = 0x30000000 ∧
    encode .stop = 0x40000000 ∧ encode (.setIref 164) = 0x500000A4 ∧ encode (.setVref 4095) = 0x60000FFF ∧
    encode .clrSec = 0x70000000 ∧ encode (.read 0x10) = 0x80000010 := by decide

/-- V-REJ-1 to V-REJ-12: the rejects, with the state otherwise unchanged. -/
theorem test_rejects :
    answers 0x00000000 false 1 = true ∧ answers 0x10000000 false 1 = true ∧ answers 0x2FFFFFFF false 1 = true ∧
    answers 0x90000000 false 1 = true ∧ answers 0xF0000000 false 1 = true ∧ answers 0x30000001 false 2 = true ∧
    answers 0x7FFFFFFF false 2 = true ∧ answers 0x50001000 false 2 = true ∧ answers 0x80000100 false 2 = true ∧
    answers 0x80000111 false 2 = true ∧ answers 0x80000011 false 3 = true ∧ answers 0x800000FF false 3 = true := by
  decide

/-! ### The first step after reset runs the operation placed for it -/

theorem test_first_step_ticks :
    goesOnTo (step (State.reset.withFetchWord 32 0x10064032)) (fun t => t.countdown == 1023 && t.vAcc == 100) = true :=
  rfl

theorem test_first_step_host_operations :
    goesOnTo (step (State.reset.withFetchWord 32 0x30000000)) (fun t => t.running) = true ∧
    goesOnTo (step (State.reset.withFetchWord 32 0x40000000)) (fun t => t.out.length == 7) = true ∧
    goesOnTo (step (State.reset.withFetchWord 32 0x500000A4)) (fun t => t.iRef == 164) = true ∧
    goesOnTo (step (State.reset.withFetchWord 32 0x60000FFF)) (fun t => t.vRef == 4095 && t.mode == .cv) = true ∧
    goesOnTo (step (State.reset.withFetchWord 32 0x70000000)) (fun t => t.responses == [⟨true, 0⟩]) = true ∧
    goesOnTo (step (State.reset.withFetchWord 32 0x80000007)) (fun t => t.responses == [⟨true, 0x400⟩]) = true :=
  ⟨rfl, rfl, rfl, rfl, rfl, rfl⟩

theorem test_first_step_pwm_load :
    step (State.reset.withFetchWord 32 0x20000000) = exec .pwmLoad State.reset := rfl

/-! ### TICK -/

/-- V-TICK-3: a window closes while stopped. -/
theorem test_tick_closes_while_stopped :
    goesOnTo (exec (.tick 3000 0) { s1 with countdown := 1, vAcc := 3069000 })
      (fun t => t == { s1 with vAvg := 3000, seconds := 1, secFlag := true }) = true := by decide

/-- V-TICK-6: a window closes while running, in CC. -/
theorem test_tick_closes_while_running :
    goesOnTo (exec (.tick 2900 300)
        { s1 with running := true, countdown := 1, iAcc := 306900, vAcc := 2966700, iRef := 400, vRef := 3000 })
      (fun t => t == { s1 with
        running := true, iRef := 400, vRef := 3000, iAvg := 300, vAvg := 2900, seconds := 1, secFlag := true,
        dutyAcc := 0x42AF0000, lastError := 0x42C80000, errorAcc := 0x41C80000, dutyShadow := 87,
        out := [.setDuty 87] }) = true := by decide +kernel

/-- V-AVG-1 to V-AVG-13. -/
theorem test_average :
    [0, 511, 512, 513, 1023, 1024, 1535, 1536, 2097152, 1024511, 1024512, 4193279, 4193280].map average =
      [0, 0, 1, 1, 1, 1, 1, 2, 2048, 1000, 1001, 4095, 4095] := by decide

/-- The state after a PI compute from the given duty accumulator, last error and integral: duty accumulator, last
error, integral, duty code. -/
def law (c : Config) (duty last integ : F32) (fb sp : Sample) : F32 × F32 × F32 × Duty :=
  let t := ({ State.powerOn c with dutyAcc := duty, lastError := last, errorAcc := integ } : State).piCompute fb sp
  (t.dutyAcc, t.lastError, t.errorAcc, F32.trunc9 t.dutyAcc)

/-- V-PI-1, V-PI-3, V-PI-4, V-PI-5, V-PI-7. -/
theorem test_law_and_clamps :
    law tc1 0 0 0 100 164 = (0x42600000, 0x42800000, 0x41800000, 56) ∧
    law tc1 0x43FA0000 0 0 0 4095 = (0x43FF8000, 0x447A0000, 0x437A0000, 511) ∧
    law tc1 0 0 0 2048 164 = (0x00000000, 0xC47A0000, 0xC37A0000, 0) ∧
    law tc2 0x43480000 0 0 100 300 = (0x43834000, 0x42480000, 0x41480000, 262) ∧
    law tc1 0x42C80000 0x42800000 0 164 164 = (0x42B80000, 0, 0, 92) := by decide +kernel

/-- V-PI-8, V-PI-9 (infinities and NaN) and V-PI-10, V-PI-11 (inexact results). -/
theorem test_law_non_finite_and_rounding :
    law tc3 0x42C80000 0x447A0000 0x7F800000 2000 1000 = (0x41200000, 0xC47A0000, 0x7FC00000, 10) ∧
    law tc3 0x42C80000 0 0 1000 2000 = (0x43FA0000, 0x447A0000, 0x7F800000, 500) ∧
    law tc4 0x42C80000 0 0 0 5 = (0x42C96666, 0x3DCCCCCD, 0x3CCCCCCD, 100) ∧
    law tc4 0x42C96666 0x3DCCCCCD 0x3CCCCCCD 0 5 = (0x42CAD333, 0x3DCCCCCD, 0x3D4CCCCD, 101) := by decide +kernel

/-- V-MODE-1, V-MODE-2: the crossover, and the strict comparison. -/
theorem test_mode_eval :
    ({ s1 with vAvg := 3001, vRef := 3000, errorAcc := 0x41C80000 } : State).modeEval =
      { s1 with vAvg := 3001, vRef := 3000, mode := .cv, kp := 0x3F800000, ki := 0x3F000000, kd := 0x3D800000 } ∧
    ({ s1 with vAvg := 3000, vRef := 3000 } : State).modeEval = { s1 with vAvg := 3000, vRef := 3000 } := by decide

/-! ### PWM_LOAD, START, STOP -/

/-- V-PWM-4: a load while stopped. -/
theorem test_pwm_load :
    goesOnTo (exec .pwmLoad { s2 with dutyActive := 262 }) (fun t => t == { s2 with dutyActive := 20 }) = true := by
  decide

/-- V-SS-2: START while running in CV. -/
theorem test_start_restarts :
    goesOnTo (exec .start { s2 with
        running := true, activeCell := 1, mode := .cv, kp := 0x3F800000, ki := 0x3F000000, kd := 0x3D800000,
        errorAcc := 0xC0200000, lastError := 0xC0A00000, seconds := 7, countdown := 300, vAcc := 1234 })
      (fun t => t == { s2 with
        running := true, activeCell := 1, lastError := 0xC0A00000,
        out := [.setDuty 20, .setRelay .cell1 true], responses := [⟨true, 0⟩] }) = true := by decide

/-- V-SS-3: STOP while running. -/
theorem test_stop :
    goesOnTo (exec .stop { s2 with
        running := true, activeCell := 1, dutyAcc := 0x43834000, dutyShadow := 262, dutyActive := 262 })
      (fun t => t == { s2 with
        dutyActive := 262, responses := [⟨true, 0⟩],
        out := [.setRelay .charge false, .setRelay .discharge false, .setDuty 20, .setRelay .cell1 false,
          .setRelay .cell2 false, .setRelay .cell3 false, .setRelay .cell4 false] }) = true := by decide

/-! ### SET_IREF, SET_VREF, CLR_SEC, READ -/

/-- V-MODE-6: SET_IREF from CV. -/
theorem test_set_iref_from_cv :
    goesOnTo (step (waiting [.host 0x50000190] { s1 with
        mode := .cv, kp := 0x3F800000, ki := 0x3F000000, kd := 0x3D800000, errorAcc := 0xC1C80000 }))
      (fun t => t == { s1 with iRef := 400, responses := [⟨true, 0⟩] }) = true := by decide

/-- V-MODE-7: SET_IREF in CC keeps the integral. -/
theorem test_set_iref_in_cc :
    goesOnTo (step (waiting [.host 0x5000000A] { s1 with errorAcc := 0x41480000 }))
      (fun t => t == { s1 with iRef := 10, errorAcc := 0x41480000, responses := [⟨true, 0⟩] }) = true := by decide

/-- V-MODE-8: SET_VREF from CC. -/
theorem test_set_vref_from_cc :
    goesOnTo (step (waiting [.host 0x60000BB8] { s1 with errorAcc := 0x41480000 }))
      (fun t => t == { s1 with
        vRef := 3000, mode := .cv, kp := 0x3F800000, ki := 0x3F000000, kd := 0x3D800000,
        responses := [⟨true, 0⟩] }) = true := by decide

/-- V-MODE-9: SET_VREF in CV keeps the integral. -/
theorem test_set_vref_in_cv :
    goesOnTo (step (waiting [.host 0x600007D0] { s1 with mode := .cv, errorAcc := 0xC0400000 }))
      (fun t => t == { s1 with vRef := 2000, mode := .cv, errorAcc := 0xC0400000, responses := [⟨true, 0⟩] }) = true := by
  decide

/-- The example of 43_host_commands.md R202. -/
theorem test_clr_sec :
    goesOnTo (exec .clrSec { s1 with secFlag := true }) (fun t => t == { s1 with responses := [⟨true, 0⟩] }) = true := by
  decide

/-- P2 word 9: running, CV, sec_flag, cell 1. -/
theorem test_read_status :
    goesOnTo (exec (.read 0x00) { s1 with running := true, mode := .cv, secFlag := true, activeCell := 1 })
      (fun t => t.responses == [⟨true, 0x17⟩]) = true := by decide

/-- The example of 43_host_commands.md R203, and P4 word 2. -/
theorem test_read_registers :
    answers 0x80000007 true 0x400 = true ∧
    goesOnTo (exec (.read 0x06) { s1 with vAcc := 2000000 }) (fun t => t.responses == [⟨true, 0x1E8480⟩]) = true := by
  decide

/-! ### Same-cycle order and reset -/

/-- D26: a duty written by a close is picked up by a load in the same cycle; the host's READ comes last. -/
theorem test_same_cycle_order :
    cycleInputs ⟨some (1, 2), true, some 0x80000010⟩ = [.tick 1 2, .timebase, .host 0x80000010] := by decide

/-- R281: a reset discards the words not yet applied. -/
theorem test_reset_discards_words :
    goesOnTo (step (State.requestReset (waiting [.host 0x30000000] { s2 with seconds := 9 }))) (fun t => t == s2) = true := by
  decide

/-! ### The host side -/

/-- V-CONV-1 to V-CONV-10. -/
theorem test_conversion :
    [0, 1, 2500, 4200, 4999, 5000, 99999].map convertVoltage = [0, 1, 2048, 3441, 4095, 4095, 4095] ∧
    [500, 1, 12500].map convertCurrent = [164, 0, 4095] := by decide

/-- S3 (`CURR 00500`), P1 (`VOLT 05000`, `OUTPUT A`, `OUTPUT O`), C1 (`OUTP A`) and S6 (`Z`). -/
theorem test_lines :
    recognize [0x43, 0x55, 0x52, 0x52, 0x20, 0x30, 0x30, 0x35, 0x30, 0x30] = .operation (.setIref 164) ∧
    recognize [0x56, 0x4F, 0x4C, 0x54, 0x20, 0x30, 0x35, 0x30, 0x30, 0x30] = .operation (.setVref 4095) ∧
    recognize [0x4F, 0x55, 0x54, 0x50, 0x55, 0x54, 0x20, 0x41] = .operation .start ∧
    recognize [0x4F, 0x55, 0x54, 0x50, 0x55, 0x54, 0x20, 0x4F] = .operation .stop ∧
    recognize [0x4F, 0x55, 0x54, 0x50, 0x20, 0x41] = .failure ∧ recognize [0x5A] = .failure := by decide +kernel

/-- V-ENC-1, V-ENC-7, V-ENC-11 and R104. -/
theorem test_assembler :
    assemble ['T', 'I', 'C', 'K', ' ', '1', '0', '0', '0', ',', ' ', '2', '0', '4', '8'] = some [.tick 1000 2048] ∧
    assemble ['S', 'E', 'T', '_', 'I', 'R', 'E', 'F', ' ', '0', 'x', 'A', '4', ' ', ';', 'x'] =
      some [.host 0x500000A4] ∧
    assemble ['R', 'E', 'A', 'D', ' ', 'D', 'U', 'T', 'Y', 'A', 'C', 'T'] = some [.host 0x80000010] ∧
    assemble ['T', 'I', 'C', 'K', 'S', ' ', '2', ',', '5', ',', '6'] = some [.tick 5 6, .tick 5 6] ∧
    assemble ['S', 'E', 'T', '_', 'V', 'R', 'E', 'F', ' ', '4', '0', '9', '6'] = none := by decide +kernel

/-! ### Witnesses: for each obligation with hypotheses, a state and operands that meet them, clause by clause -/

/-- The hypotheses of a statement about the next host word. -/
def nextHost (w : Word) (s : State) : Prop := s.resetPending = false ∧ s.pending = [.host w]

theorem witness_EncodeOfDecode :
    decode 0x10FFFFFF = .ok (.tick 4095 4095) ∧ decode 0x60000FFF = .ok (.setVref 4095) ∧
    decode 0x800000FF = .ok (.read 0xFF) := ⟨rfl, rfl, rfl⟩

theorem witness_WordIsARowsInstructionWhenItMatches :
    (0x10FFFFFF &&& 0xFF000000 : Word) = 0x10000000 ∧ (0x20000000 &&& 0xFFFFFFFF : Word) = 0x20000000 ∧
    (0x50000FFF &&& 0xFFFFF000 : Word) = 0x50000000 ∧ (0x800000FF &&& 0xFFFFFF00 : Word) = 0x80000000 ∧
    (0x0FFFFFFF &&& 0xF0000000 : Word) = 0 ∧ 0x90000000 ≤ (0x90000000 : Word).toNat ∧
    decode 0x11000000 = .error .reservedField := ⟨by decide, by decide, by decide, by decide, by decide, by decide, rfl⟩

/-- At the boundaries of each cause: opcodes 2 and 9, one reserved bit of each format, index 0x11. -/
theorem witness_MalformedHostWordIsRejected :
    nextHost 0x2FFFFFFF (waiting [.host 0x2FFFFFFF] s1) ∧
    (0x2FFFFFFF : Word).toNat / 2 ^ 28 < 3 ∧ 8 < (0x90000000 : Word).toNat / 2 ^ 28 ∧
    (0x30000001 : Word).toNat / 2 ^ 28 = 3 ∧ (0x30000001 : Word).toNat % 2 ^ 28 ≠ 0 ∧
    (0x50001000 : Word).toNat / 2 ^ 28 = 5 ∧ (0x50001000 : Word).toNat % 2 ^ 28 / 2 ^ 12 ≠ 0 ∧
    (0x80000100 : Word).toNat / 2 ^ 28 = 8 ∧ (0x80000100 : Word).toNat % 2 ^ 28 / 2 ^ 8 ≠ 0 ∧
    (0x80000011 : Word).toNat / 2 ^ 28 = 8 ∧ (0x80000011 : Word).toNat % 2 ^ 28 / 2 ^ 8 = 0 ∧
    0x11 ≤ (0x80000011 : Word).toNat % 2 ^ 8 :=
  ⟨⟨rfl, rfl⟩, by decide, by decide, by decide, by decide, by decide, by decide, by decide, by decide, by decide,
    by decide, by decide⟩

theorem witness_WellFormedHostWordRunsItsOperation :
    nextHost 0x30000000 (waiting [.host 0x30000000] s1) ∧ (0x30000000 : Word).toNat = 3 * 2 ^ 28 ∧
    (0x40000000 : Word).toNat = 4 * 2 ^ 28 ∧ (0x50000FFF : Word).toNat = 5 * 2 ^ 28 + 4095 ∧
    (0x60000000 : Word).toNat = 6 * 2 ^ 28 + 0 ∧ (0x70000000 : Word).toNat = 7 * 2 ^ 28 ∧
    (0x80000010 : Word).toNat = 8 * 2 ^ 28 + 0x10 := ⟨⟨rfl, rfl⟩, rfl, rfl, rfl, rfl, rfl, rfl⟩

theorem witness_TickAndTimebaseWordsAlwaysRun :
    (waiting [.tick 1 2] s1).resetPending = false ∧ (waiting [.tick 1 2] s1).pending = .tick 1 2 :: [] ∧
    (waiting [.timebase] s1).pending = .timebase :: [] := ⟨rfl, rfl, rfl⟩

theorem witness_StepRunsTheDecodedInstruction :
    let s := waiting [.host 0x80000010, .timebase] s1
    s.resetPending = false ∧ s.pending = .host 0x80000010 :: [.timebase] ∧
    decode (Input.host 0x80000010).word = .ok (.read 0x10) ∧ (Instr.read 0x10).wellFormed = true ∧
    (Instr.read 0x10).port = (Input.host 0x80000010).port := ⟨rfl, rfl, rfl, by decide, rfl⟩

theorem witness_StepTakesExactlyOneWord :
    let s := waiting [.host 0x90000000, .timebase] s1
    s.resetPending = false ∧ s.pending = .host 0x90000000 :: [.timebase] ∧ ∃ t, step s = .next t :=
  ⟨rfl, rfl, _, rfl⟩

theorem witness_IdleBlockDoesNotMove : s1.resetPending = false ∧ s1.pending = [] := ⟨rfl, rfl⟩

/-- A host word that is an operation, and one that is rejected. -/
theorem witness_SameCycleWordsApplyInPortOrder :
    s1.resetPending = false ∧ s1.pending = [] ∧ dispatch .host 0x80000010 = .ok (.read 0x10) ∧
    dispatch .host 0x10000000 = .error .notHostOp := ⟨rfl, rfl, rfl, rfl⟩

theorem witness_ResetGivesEveryFieldItsResetValue :
    (State.requestReset { s2 with seconds := 9 }).resetPending = true := rfl

/-- Both ends of the range of cells, a level that is on and one that is off, a START and a STOP. -/
theorem witness_OutputsRightAfterReset :
    1 ≤ 1 ∧ 1 ≤ 4 ∧ 4 ≤ 4 ∧ ({ s1 with activeCell := 4 } : State).cellLevel 4 = true ∧
    ({ s1 with activeCell := 4 } : State).cellLevel 1 = false ∧
    (∃ t, exec .start s1 = .next t ∧ t.cellLevel 1 = true) ∧
    ∃ t, exec .stop { s1 with activeCell := 1 } = .next t ∧ t.cellLevel 1 = false :=
  ⟨by decide, by decide, by decide, rfl, rfl, ⟨_, rfl, rfl⟩, _, rfl, rfl⟩

theorem witness_ConfigurationBreakingAConstraintIsRefused : Config.ofParameters tc1.params = some tc1 := by decide

theorem witness_NoStepWritesTheConfiguration :
    ∃ t, step (waiting [.host 0x30000000] s2) = .next t ∧ t.running = true := ⟨_, rfl, rfl⟩

/-- A nonzero sum, and a zero sum of operands that are not zeros. -/
theorem witness_SumIsRoundedToNearestEven :
    F32.isFinite 0x3F800000 = true ∧ F32.isFinite 0xBF800000 = true ∧ F32.isFinite 0x7F7FFFFF = true ∧
    F32.value 0x3F800000 + F32.value 0x3F800000 ≠ 0 ∧ F32.value 0x3F800000 + F32.value 0xBF800000 = 0 := by decide

theorem witness_ProductIsRoundedToNearestEven :
    F32.isFinite 0x7F7FFFFF = true ∧ F32.isFinite 0x80000001 = true := by decide

theorem witness_NaNResultsAreCanonical :
    F32.isNaN 0xFF800001 = true ∧ F32.isNaN (F32.add 0x7F800000 0xFF800000) = true ∧
    F32.isNaN (F32.sub 0x7F800000 0x7F800000) = true ∧ F32.isNaN (F32.mul 0x7F800000 0x80000000) = true ∧
    F32.isFinite 0x7F7FFFFF = true ∧ F32.isInf 0xFF800000 = true ∧ F32.isFinite 0x80000000 = true ∧
    F32.value 0x80000000 = 0 ∧ F32.isInf 0x7F800000 = true ∧ F32.isFinite 0x00000001 = true ∧
    F32.value 0x00000001 ≠ 0 := by decide +kernel

theorem witness_SmallIntegersConvertExactly : (-16777215 : Int).natAbs < 2 ^ 24 := by decide

theorem witness_LessThanComparesValues :
    F32.isNaN 0x7FC00000 = true ∧ F32.isFinite 0x80000000 = true ∧ F32.isFinite 0x7F7FFFFF = true := by decide

/-- Both bounds equal, then a datum just below, just above, and at the ends of [-1, 1]; a NaN. -/
theorem witness_ClampGivesAValueInRange :
    F32.isFinite 0xBF800000 = true ∧ F32.isFinite 0x3F800000 = true ∧
    F32.value 0xBF800000 ≤ F32.value 0xBF800000 ∧ F32.value 0xBF800000 ≤ F32.value 0x3F800000 ∧
    F32.isNaN 0x7FC00000 = true ∧
    F32.isFinite 0xBF800001 = true ∧ F32.value 0xBF800001 < F32.value 0xBF800000 ∧
    F32.isFinite 0x3F800001 = true ∧ F32.value 0x3F800000 < F32.value 0x3F800001 ∧
    F32.isFinite 0x80000000 = true ∧ F32.value 0xBF800000 ≤ F32.value 0x80000000 ∧
    F32.value 0x80000000 ≤ F32.value 0x3F800000 := by decide

theorem witness_TruncationIsTheIntegerPartInRange :
    F32.le (F32.ofInt tc2.params.dcMin) 0x43C7FFFF = true ∧ F32.le 0x43C7FFFF (F32.ofInt tc2.params.dcMax) = true := by
  decide

theorem inv_s1 : s1.Inv :=
  ⟨⟨rfl, rfl⟩, ⟨rfl, rfl⟩, by decide, by decide, by decide, ⟨by decide, by decide⟩, ⟨by decide, by decide⟩, rfl, rfl, rfl,
    fun h => absurd h (by decide)⟩

theorem witness_TickInsideAWindow : s1.countdown ≠ 1 := by decide

/-- A fresh window, and a window one sample short with both accumulators at their greatest values. -/
theorem witness_TickSumsAreExact :
    s1.Inv ∧ s1.countdown ≠ 1 ∧
    ({ s1 with countdown := 1, vAcc := 4189185, iAcc := 4189185 } : State).Inv ∧
    ({ s1 with countdown := 1, vAcc := 4189185, iAcc := 4189185 } : State).countdown = 1 :=
  ⟨inv_s1, by decide,
    ⟨⟨rfl, rfl⟩, ⟨rfl, rfl⟩, by decide, by decide, by decide, ⟨by decide, by decide⟩, ⟨by decide, by decide⟩, rfl, rfl, rfl,
      fun h => absurd h (by decide)⟩, rfl⟩

theorem witness_TickClosesAWindowWhileStopped :
    ({ s1 with countdown := 1 } : State).countdown = 1 ∧ ({ s1 with countdown := 1 } : State).running = false :=
  ⟨rfl, rfl⟩

/-- One state that crosses over and one that does not. -/
theorem witness_TickClosesAWindowWhileRunning :
    let s : State := { s1 with running := true, countdown := 1, vAcc := 1023 }
    s.countdown = 1 ∧ s.running = true ∧
    goesOnTo (exec (.tick 1 0) s) (fun t => t.mode == .cv) = true ∧
    goesOnTo (exec (.tick 1 0) { s with vRef := 1 }) (fun t => t.mode == .cc) = true := by decide +kernel

theorem witness_AverageRoundsToNearest : (4193280 : Accumulator).toNat ≤ 1024 * 4095 := by decide

theorem witness_OpenWindowHoldsTheSumOfItsSamples :
    s1.countdown = 1024 ∧ s1.vAcc = 0 ∧ s1.iAcc = 0 ∧ (List.replicate 1023 ((4095, 4095) : Sample × Sample)).length < 1024 :=
  ⟨rfl, rfl, rfl, by rw [List.length_replicate]; decide⟩

theorem witness_FullWindowAveragesItsSamples :
    s1.countdown = 1024 ∧ s1.vAcc = 0 ∧ s1.iAcc = 0 ∧ (List.replicate 1024 ((4095, 4095) : Sample × Sample)).length = 1024 ∧
    s1.running = false ∧ ({ s1 with running := true } : State).running = true :=
  ⟨rfl, rfl, rfl, List.length_replicate, rfl, rfl⟩

/-- A close, a TICK that is none, START, CLR_SEC. -/
theorem witness_SecondsAndFlagFollowWindowCloses :
    closesWindow (.tick 0 0) { s1 with countdown := 1 } ∧ ¬ closesWindow (.tick 0 0) s1 ∧ Instr.tick 0 0 ≠ .start ∧
    Instr.tick 0 0 ≠ .clrSec ∧ (∃ t, exec (.tick 0 0) { s1 with countdown := 1 } = .next t) ∧
    (∃ t, exec (.tick 0 0) s1 = .next t) ∧ (∃ t, exec .start s1 = .next t) ∧ ∃ t, exec .clrSec s1 = .next t :=
  ⟨⟨⟨0, 0, rfl⟩, rfl⟩, fun h => absurd h.2 (by decide), nofun, nofun, ⟨_, rfl⟩, ⟨_, rfl⟩, ⟨_, rfl⟩, ⟨_, rfl⟩⟩

theorem witness_NaNIntegralHoldsTheDutyAtMinimum :
    F32.isNaN ({ s1 with errorAcc := 0x7FC00000 } : State).errorAcc = true := by decide

theorem witness_DutyDriftsByTheIntegralAtZeroError :
    s1.Inv ∧ s1.lastError = 0 ∧ F32.value s1.cfg.params.errMin ≤ 0 ∧ 0 ≤ F32.value s1.cfg.params.errMax ∧
    s1.dutyAcc ≠ 0x80000000 ∧ s1.errorAcc ≠ 0x80000000 := ⟨inv_s1, rfl, by decide, by decide, by decide, by decide⟩

/-- The average equal to the reference, and one above it. -/
theorem witness_PairIsSelectedByTheModeAfterCrossover :
    s1.mode = .cc ∧ ({ s1 with mode := .cv } : State).mode = .cv ∧ s1.vAvg.toNat ≤ s1.vRef.toNat ∧
    ({ s1 with vAvg := 1 } : State).vRef.toNat < ({ s1 with vAvg := 1 } : State).vAvg.toNat := by decide

theorem witness_CrossoverFiresOnTheFreshAverage :
    s1.mode = .cc ∧ (∃ t, exec (.tick 1 0) s1 = .next t) ∧
    goesOnTo (exec (.tick 1 0) { s1 with running := true, countdown := 1, vAcc := 1023 }) (fun t => t.mode == .cv) = true :=
  ⟨rfl, ⟨_, rfl⟩, by decide +kernel⟩

theorem witness_SetIrefResult : s1.mode = .cc ∧ ({ s1 with mode := .cv } : State).mode = .cv := ⟨rfl, rfl⟩

theorem witness_SetVrefResult : ({ s1 with mode := .cv } : State).mode = .cv ∧ s1.mode = .cc := ⟨rfl, rfl⟩

theorem witness_ReadResult : 0x11 ≤ (0x11 : Byte).toNat ∧ 0x11 ≤ (0xFF : Byte).toNat := by decide

theorem witness_StoppedDutyStaysAtMinimum :
    ∃ t u, exec .stop { s2 with running := true, dutyActive := 262 } = .next t ∧
      (∀ i ∈ [Instr.tick 5 5, .pwmLoad], i ≠ .start) ∧ execAll [.tick 5 5, .pwmLoad] t = .next u ∧
      Instr.pwmLoad ∈ [Instr.tick 5 5, .pwmLoad] := ⟨_, _, rfl, by decide, rfl, by decide⟩

/-- A READ, another operation, a rejected word, and a word of another port. -/
theorem witness_EveryHostWordGetsOneResponse :
    (∃ t, step (waiting [.host 0x80000010] s1) = .next t) ∧ dispatch .host 0x80000010 = .ok (.read 0x10) ∧
    (∃ t, step (waiting [.host 0x70000000] s1) = .next t) ∧ dispatch .host 0x70000000 = .ok .clrSec ∧
    (∃ t, step (waiting [.host 0x80000011] s1) = .next t) ∧ dispatch .host 0x80000011 = .error .badIndex ∧
    (∃ t, step (waiting [.timebase] s1) = .next t) ∧ (∀ w, Input.timebase ≠ .host w) ∧
    (waiting [.timebase] s1).resetPending = false :=
  ⟨⟨_, rfl⟩, rfl, ⟨_, rfl⟩, rfl, ⟨_, rfl⟩, rfl, ⟨_, rfl⟩, nofun, rfl⟩

/-- Every clause's premise: a close while running writes the window, flag, controller and trace fields; START, STOP and
the setpoint writes do the rest. -/
theorem witness_OnlyMarkedOperationsWriteAField :
    goesOnTo (exec (.tick 2 1) { s1 with running := true, countdown := 1, vAcc := 1023, iAcc := 511 }) (fun t =>
      t.mode != s1.mode && t.secFlag != s1.secFlag && t.kp != s1.kp && t.lastError != s1.lastError &&
      t.errorAcc != s1.errorAcc && t.countdown != 1 && t.seconds != s1.seconds && t.iAcc != 511 &&
      t.vAvg != s1.vAvg && t.out != s1.out) = true ∧
    goesOnTo (exec (.tick 0 0) { s1 with running := true, countdown := 1, iRef := 9 }) (fun t =>
      t.dutyAcc != s1.dutyAcc && t.dutyShadow != s1.dutyShadow) = true ∧
    goesOnTo (exec .start s1) (fun t => t.running != s1.running && t.activeCell != s1.activeCell) = true ∧
    goesOnTo (exec (.setIref 1) s1) (fun t => t.iRef != s1.iRef) = true ∧
    goesOnTo (exec (.setVref 1) s1) (fun t => t.vRef != s1.vRef) = true ∧
    goesOnTo (exec .pwmLoad { s1 with dutyShadow := 3 }) (fun t => t.dutyActive != s1.dutyActive) = true := by
  decide +kernel

theorem witness_TraceGrowsByWhatTheOperationEmits :
    ∃ t, exec .start { s2 with dutyShadow := 87 } = .next t ∧ t.dutyShadow ≠ 87 := ⟨_, rfl, by decide⟩

theorem witness_OnlySetIrefOrStartLeavesCV :
    (∃ t, exec (.setIref 0) { s1 with mode := .cv } = .next t ∧ t.mode = .cc) ∧
    ∃ t, exec .start { s1 with mode := .cv } = .next t ∧ t.mode = .cc := ⟨⟨_, rfl, rfl⟩, _, rfl, rfl⟩

theorem witness_CVLastsUntilSetIrefOrStart :
    ∃ t u, (∀ i ∈ [Instr.setVref 7] ++ [.tick 1 2, .stop], i ≠ .start ∧ ∀ ref, i ≠ .setIref ref) ∧
      execAll [.setVref 7] s1 = .next t ∧ t.mode = .cv ∧ execAll [.tick 1 2, .stop] t = .next u :=
  ⟨_, _, by simp, rfl, rfl, rfl⟩

theorem witness_GainsAreSwappedWholesale :
    ∃ t, exec (.setVref 7) s1 = .next t ∧ (t.kp, t.ki, t.kd) ≠ (s1.kp, s1.ki, s1.kd) := ⟨_, rfl, by decide⟩

theorem witness_OperationsOtherThanTickAreIdempotent :
    ∃ t u, (∀ v c, Instr.start ≠ .tick v c) ∧ exec .start s1 = .next t ∧ exec .start t = .next u ∧
      Instr.clrSec ≠ .start ∧ Instr.clrSec ≠ .stop := ⟨_, _, nofun, rfl, rfl, nofun, nofun⟩

theorem witness_EveryStepKeepsTheInvariant : ∃ t, s1.Inv ∧ step s1 = .next t := ⟨_, inv_s1, rfl⟩

/-- Below saturation, at it, and above it. -/
theorem witness_SetpointConversionRoundsAndSaturates :
    (convert 4998 5000).toNat < 4095 ∧ (convert 4999 5000).toNat = 4095 ∧ (convert 12500 12500).toNat = 4095 := by
  decide

/-- One line of each row of R110; a line of 20 bytes. -/
theorem witness_LinesAreRecognizedByTheOffsetTable :
    let line (b0 b4 b5 b7 : Byte) : List Byte := [b0, 0x41, 0x41, 0x41, b4, b5, 0x41, b7]
    ((line 0x43 0x20 0x31 0x41).length ≤ 20 ∧ 0x0A ∉ line 0x43 0x20 0x31 0x41) ∧
    (line 0x2A 0 0 0)[0]? = some 0x2A ∧ (line 0x4D 0 0x56 0)[5]? = some 0x56 ∧ (line 0x4D 0 0x49 0)[5]? = some 0x49 ∧
    ¬ ((line 0x4D 0 0 0)[5]? = some 0x56 ∨ (line 0x4D 0 0 0)[5]? = some 0x49) ∧
    (line 0x4F 0 0 0x41)[7]? = some 0x41 ∧ (line 0x4F 0 0 0x4F)[7]? = some 0x4F ∧ ([0x4F] : List Byte)[7]? ≠ some 0x41 ∧
    (line 0x43 0x20 0 0)[4]? = some 0x20 ∧ (line 0x43 0x3A 0 0)[4]? = some 0x3A ∧ (line 0x43 0 0 0)[4]? ≠ some 0x20 ∧
    (line 0x56 0x20 0 0)[4]? = some 0x20 ∧ (line 0x56 0x3A 0 0)[4]? = some 0x3A ∧ (line 0x56 0 0 0)[4]? ≠ some 0x3A ∧
    (line 0x5A 0 0 0)[0]? ∉ [some 0x2A, some 0x4D, some 0x4F, some 0x43, some (0x56 : Byte)] ∧
    (List.replicate 20 (0x43 : Byte)).length = 20 := by decide +kernel

/-- Digits with a byte just above the digits behind them, and a line with a byte just below them at b[5]. -/
theorem witness_LineValueIsItsDecimalDigits :
    ([0x43, 0x55, 0x52, 0x52, 0x20] : List Byte).length = 5 ∧
    (∀ d ∈ ([0x30, 0x30, 0x35, 0x30, 0x39] : List Byte), 0x30 ≤ d.toNat ∧ d.toNat ≤ 0x39) ∧
    (∀ b, ([0x3A, 0x30] : List Byte).head? = some b → b.toNat < 0x30 ∨ 0x39 < b.toNat) ∧
    (∀ b, ([0x2F] : List Byte).head? = some b → b.toNat < 0x30 ∨ 0x39 < b.toNat) ∧
    (∀ b, ([] : List Byte).head? = some b → b.toNat < 0x30 ∨ 0x39 < b.toNat) :=
  ⟨rfl, by decide, by simp, by simp, by simp⟩

end Sys2Proof.Tests
end

section
/-! SUPPORT. The binary32 primitives on infinities, integers and bounds in order: where an infinity stands, the value of
`f32(n)`, what `clamp` gives on each part of its domain (00_scope.md R15), and `trunc9` as a number (R16). -/

namespace Sys2Proof.F32

/-! ### The order, in keys -/

theorem lt_iff (a b : F32) : lt a b = true ↔ isNaN a = false ∧ isNaN b = false ∧ key a < key b := by
  simp [lt, and_assoc]

theorem le_iff (a b : F32) : le a b = true ↔ isNaN a = false ∧ isNaN b = false ∧ key a ≤ key b := by
  simp [le, and_assoc]

theorem lt_eq_false_of_key_le {a b : F32} (h : key b ≤ key a) : lt a b = false := by
  simp [lt, h]

/-- The keys of the finite data stand strictly between those of the infinities. -/
theorem key_bounds_of_isFinite {a : F32} (h : isFinite a = true) : -(infMag : Int) < key a ∧ key a < infMag := by
  have hm := (isFinite_iff a).1 h
  unfold key
  split <;> omega

theorem lt_posInf_of_isFinite {a : F32} (h : isFinite a = true) : lt a 0x7F800000 = true := by
  have hkey : key 0x7F800000 = infMag := by decide
  exact (lt_iff _ _).2 ⟨not_isNaN_of_isFinite h, by decide, hkey ▸ (key_bounds_of_isFinite h).2⟩

theorem negInf_lt_of_isFinite {a : F32} (h : isFinite a = true) : lt 0xFF800000 a = true := by
  have hkey : key 0xFF800000 = -(infMag : Int) := by decide
  exact (lt_iff _ _).2 ⟨by decide, not_isNaN_of_isFinite h, hkey ▸ (key_bounds_of_isFinite h).1⟩

/-! ### What clamp gives -/

theorem clamp_of_isNaN {x : F32} (lo hi : F32) (h : isNaN x = true) : clamp x lo hi = lo := by
  simp [clamp, h]

theorem clamp_of_lt_lo {x lo : F32} (hi : F32) (h : lt x lo = true) : clamp x lo hi = lo := by
  simp [clamp, h]

theorem clamp_of_hi_lt {x lo hi : F32} (hle : le lo hi = true) (h : lt hi x = true) : clamp x lo hi = hi := by
  obtain ⟨-, -, hbounds⟩ := (le_iff lo hi).1 hle
  obtain ⟨-, hx, hkey⟩ := (lt_iff hi x).1 h
  have hlo : lt x lo = false := lt_eq_false_of_key_le (by omega)
  simp [clamp, hx, hlo, h]

theorem clamp_of_le_of_le {x lo hi : F32} (hlo : le lo x = true) (hhi : le x hi = true) : clamp x lo hi = x := by
  obtain ⟨-, hx, hklo⟩ := (le_iff lo x).1 hlo
  obtain ⟨-, -, hkhi⟩ := (le_iff x hi).1 hhi
  simp [clamp, hx, lt_eq_false_of_key_le hklo, lt_eq_false_of_key_le hkhi]

theorem isFinite_clamp (x : F32) {lo hi : F32} (hlo : isFinite lo = true) (hhi : isFinite hi = true)
    (hle : le lo hi = true) : isFinite (clamp x lo hi) = true :=
  isFinite_of_between hlo hhi (clamp_between x hle).1 (clamp_between x hle).2

/-! ### Integers and their parts -/

/-- The units of a datum that is not negative are its value. -/
theorem value_eq_units_of_nonneg {a : F32} (h : 0 ≤ value a) : value a = units a := by
  have := natAbs_value a
  omega

/-- `f32(n)` is exact for an integer of at most 24 bits (R14). -/
theorem value_ofInt {n : Int} (h : n.natAbs < 2 ^ 24) : value (ofInt n) = n * 2 ^ 149 := by
  have hu : units (ofInt n) = 2 ^ 149 * n.natAbs := by
    simpa only [units, ofInt, mag_round] using (roundMag_of_lt n.natAbs h).1
  have hs : sign (ofInt n) = decide (n < 0) := sign_round ..
  simp only [value, hu, hs, decide_eq_true_eq]
  split <;> omega

theorem isFinite_ofInt {n : Int} (h : n.natAbs < 2 ^ 24) : isFinite (ofInt n) = true := by
  rw [isFinite_iff, ofInt, mag_round]
  exact (roundMag_of_lt n.natAbs h).2

/-- Below 512, `trunc9` loses no bit of the integer part (R16). -/
theorem trunc9_toNat_of_lt {x : F32} (h : units x < 512 * 2 ^ 149) : (trunc9 x).toNat = units x / 2 ^ 149 := by
  rw [trunc9, BitVec.toNat_ofNat]
  omega

end Sys2Proof.F32

namespace Sys2Proof

/-! ### The parameters and the duty bounds -/

/-- The constraints of R8, as values. -/
theorem Parameters.wellFormed_iff (p : Parameters) : p.wellFormed = true ↔
    p.dcMin ≤ p.dcMax ∧ p.dcMax ≤ 511 ∧
    F32.isFinite p.errMin = true ∧ F32.isFinite p.errMax = true ∧ F32.value p.errMin ≤ F32.value p.errMax ∧
    F32.isFinite p.kpCC = true ∧ F32.isFinite p.kiCC = true ∧ F32.isFinite p.kdCC = true ∧
    F32.isFinite p.kpCV = true ∧ F32.isFinite p.kiCV = true ∧ F32.isFinite p.kdCV = true := by
  simp only [Parameters.wellFormed, Bool.and_eq_true, decide_eq_true_eq, and_assoc]
  refine and_congr_right fun _ => and_congr_right fun _ => and_congr_right fun hmin => and_congr_right fun hmax => ?_
  rw [F32.le_iff_of_isFinite hmin hmax]

theorem Config.ofParameters_eq_some_iff (p : Parameters) (c : Config) :
    Config.ofParameters p = some c ↔ c.params = p := by
  constructor
  · intro h
    simp only [Config.ofParameters, Option.dite_none_right_eq_some, Option.some.injEq] at h
    obtain ⟨_, rfl⟩ := h
    rfl
  · rintro rfl
    exact dif_pos c.ok

theorem Config.exists_params_eq_iff (p : Parameters) : (∃ c : Config, c.params = p) ↔ p.wellFormed = true :=
  ⟨fun ⟨c, hc⟩ => hc ▸ c.ok, fun h => ⟨⟨p, h⟩, rfl⟩⟩

/-- DC_MIN and DC_MAX convert exactly. -/
theorem Config.duty_bounds_natAbs_lt (c : Config) :
    (c.params.dcMin : Int).natAbs < 2 ^ 24 ∧ (c.params.dcMax : Int).natAbs < 2 ^ 24 := by
  have := c.dcMin_le_dcMax
  have := c.dcMax_le
  omega

/-- A datum from f32(DC_MIN) to f32(DC_MAX) is not negative, and in units it lies from DC_MIN to DC_MAX. -/
theorem Config.units_of_between (c : Config) {x : F32} (hlo : F32.le (F32.ofInt c.params.dcMin) x = true)
    (hhi : F32.le x (F32.ofInt c.params.dcMax) = true) :
    F32.value x = F32.units x ∧
    c.params.dcMin * 2 ^ 149 ≤ F32.units x ∧ F32.units x ≤ c.params.dcMax * 2 ^ 149 := by
  obtain ⟨hmin, hmax⟩ := c.duty_bounds_natAbs_lt
  have hfin := F32.isFinite_of_between (F32.isFinite_ofInt hmin) (F32.isFinite_ofInt hmax) hlo hhi
  rw [F32.le_iff_of_isFinite (F32.isFinite_ofInt hmin) hfin, F32.value_ofInt hmin] at hlo
  rw [F32.le_iff_of_isFinite hfin (F32.isFinite_ofInt hmax), F32.value_ofInt hmax] at hhi
  have hval : F32.value x = F32.units x := F32.value_eq_units_of_nonneg (by omega)
  exact ⟨hval, by omega, by omega⟩

/-! ### The obligations of the scope family -/

/-- Settles O16: a configuration is its parameters with the constraints of R8, which `wellFormed` checks. -/
theorem configurationBreakingAConstraintIsRefused : Obligations.ConfigurationBreakingAConstraintIsRefused := by
  intro p
  simp only [Config.ofParameters_eq_some_iff]
  exact ⟨(Config.exists_params_eq_iff p).trans p.wellFormed_iff, fun _ hc => hc⟩

/-- Settles O23: on each part of the domain one branch of `clamp` runs, and the result lies between the bounds. -/
theorem clampGivesAValueInRange : Obligations.ClampGivesAValueInRange := by
  intro x lo hi hlo hhi hval
  have hle : F32.le lo hi = true := (F32.le_iff_of_isFinite hlo hhi).2 hval
  have hfin := F32.isFinite_clamp x hlo hhi hle
  obtain ⟨habove, hbelow⟩ := F32.clamp_between x hle
  refine ⟨F32.clamp_of_isNaN lo hi, ?_, ?_, ?_, ?_, ?_, hfin, ?_, ?_⟩
  · exact fun hx h => F32.clamp_of_lt_lo hi ((F32.lt_iff_of_isFinite hx hlo).2 h)
  · exact fun hx h => F32.clamp_of_hi_lt hle ((F32.lt_iff_of_isFinite hhi hx).2 h)
  · exact fun hx h1 h2 =>
      F32.clamp_of_le_of_le ((F32.le_iff_of_isFinite hlo hx).2 h1) ((F32.le_iff_of_isFinite hx hhi).2 h2)
  · exact F32.clamp_of_lt_lo hi (F32.negInf_lt_of_isFinite hlo)
  · exact F32.clamp_of_hi_lt hle (F32.lt_posInf_of_isFinite hhi)
  · exact (F32.le_iff_of_isFinite hlo hfin).1 habove
  · exact (F32.le_iff_of_isFinite hfin hhi).1 hbelow

/-- Settles O24: between the duty bounds the value is the units, which `trunc9` divides by the units of 1. -/
theorem truncationIsTheIntegerPartInRange : Obligations.TruncationIsTheIntegerPartInRange := by
  intro c x hlo hhi
  obtain ⟨hval, hmin, hmax⟩ := c.units_of_between hlo hhi
  have h511 := c.dcMax_le
  rw [F32.trunc9_toNat_of_lt (by omega), hval]
  omega

end Sys2Proof
end

section
/-! SUPPORT. The mode over a window close, and the table of writers of the state family (10_state.md R52). -/

namespace Sys2Proof.Machine

/-- An acceptance is a response, so the laws of `respond` say what it leaves alone. -/
@[simp] theorem State.accept_eq_respond (s : State) : s.accept = s.respond true 0 := rfl

/-- What follows a close changes the mode only by a crossover, from CC to CV (42_mode_fsm.md R181, R182). -/
theorem State.afterClose_mode_of_ne {s : State} (h : s.afterClose.mode ≠ s.mode) :
    s.mode = .cc ∧ s.afterClose.mode = .cv := by
  cases hr : s.running with
  | false => exact absurd (by rw [State.afterClose_of_stopped s hr]) h
  | true =>
    rw [State.afterClose_of_running s hr, State.controlCycle_mode] at h ⊢
    obtain ⟨hcc, -, hcross⟩ | ⟨-, hsame⟩ := State.modeEval_cases s
    · exact ⟨hcc, by rw [hcross, State.switchMode_mode]⟩
    · exact absurd (by rw [hsame]) h

/-- Settles O50, operation by operation: the laws of the state's updates say which fields each one leaves alone, and
the one field whose writing depends on more than the operation is the mode over a close. -/
theorem onlyMarkedOperationsWriteAField : Obligations.OnlyMarkedOperationsWriteAField := by
  intro i s t h
  obtain htick | hclose | hload | hstart | hstop | hiref | hvref | hclr | hread := exec_cases h
  · obtain ⟨v, c, rfl, -, rfl⟩ := htick
    simp
  · obtain ⟨v, c, rfl, hone, rfl⟩ := hclose
    have hmode := @State.afterClose_mode_of_ne (s.accumulate v c).countDown.closeWindow
    simpa [closesWindow, hone] using hmode
  · obtain ⟨rfl, rfl⟩ := hload
    simp
  · obtain ⟨rfl, ⟨⟩⟩ := hstart
    simp
  · obtain ⟨rfl, ⟨⟩⟩ := hstop
    simp
  · obtain ⟨ref, rfl, rfl⟩ := hiref
    simp
  · obtain ⟨ref, rfl, rfl⟩ := hvref
    simp
  · obtain ⟨rfl, rfl⟩ := hclr
    simp
  · obtain ⟨idx, ok, data, rfl, rfl⟩ := hread
    simp

end Sys2Proof.Machine
end

section
/-! SUPPORT. The decoder against the encoder: a word decodes to an instruction exactly when it is that instruction's word
(30_encoding.md R96, R103), at any port and at the host port with its checks (R98–R100), and the words the masks of R96
pick out; with the obligations of the encoding family about words alone. -/

namespace Sys2Proof

/-! ### The reserved fields, in numbers -/

theorem rsvFieldN_eq_zero_iff (w : Word) : rsvFieldN w = 0 ↔ w.toNat % 2 ^ 28 = 0 := by
  rw [← BitVec.toNat_inj, rsvFieldN_toNat, BitVec.ofNat_eq_ofNat, BitVec.toNat_zero]

theorem rsvFieldT_eq_zero_iff (w : Word) : rsvFieldT w = 0 ↔ w.toNat % 2 ^ 28 / 2 ^ 24 = 0 := by
  rw [← BitVec.toNat_inj, rsvFieldT_toNat, BitVec.ofNat_eq_ofNat, BitVec.toNat_zero]
  omega

theorem rsvFieldS_eq_zero_iff (w : Word) : rsvFieldS w = 0 ↔ w.toNat % 2 ^ 28 / 2 ^ 12 = 0 := by
  rw [← BitVec.toNat_inj, rsvFieldS_toNat, BitVec.ofNat_eq_ofNat, BitVec.toNat_zero]
  omega

theorem rsvFieldR_eq_zero_iff (w : Word) : rsvFieldR w = 0 ↔ w.toNat % 2 ^ 28 / 2 ^ 8 = 0 := by
  rw [← BitVec.toNat_inj, rsvFieldR_toNat, BitVec.ofNat_eq_ofNat, BitVec.toNat_zero]
  omega

/-! ### Decoding and encoding are inverse -/

/-- In numbers: the word of an instruction is the one that is its encoded number. -/
theorem encode_eq_iff (w : Word) (i : Instr) : encode i = w ↔ encodedNumber i = w.toNat := by
  rw [← encode_toNat, BitVec.toNat_inj]

theorem decode_encode (i : Instr) : decode (encode i) = .ok i := by
  cases i with
  | tick v c =>
    obtain ⟨hop, hrsv, hv, hc⟩ := Laws.EncodedFields.tick v c
    simp [decode, hop, whenReservedZero_ok, BitVec.toNat_eq, hrsv, hv, hc]
  | pwmLoad => rfl
  | start => rfl
  | stop => rfl
  | setIref ref =>
    obtain ⟨hop, hrsv, href⟩ := Laws.EncodedFields.setIref ref
    simp [decode, hop, whenReservedZero_ok, BitVec.toNat_eq, hrsv, href]
  | setVref ref =>
    obtain ⟨hop, hrsv, href⟩ := Laws.EncodedFields.setVref ref
    simp [decode, hop, whenReservedZero_ok, BitVec.toNat_eq, hrsv, href]
  | clrSec => rfl
  | read idx =>
    obtain ⟨hop, hrsv, hidx⟩ := Laws.EncodedFields.read idx
    simp [decode, hop, whenReservedZero_ok, BitVec.toNat_eq, hrsv, hidx]

/-- A row's opcode and its zero reserved field leave only the operands' bits, so the word is the row's encoding. -/
theorem encode_of_decode {w : Word} {i : Instr} (h : decode w = .ok i) : encode i = w := by
  have hop := opField_toNat w
  unfold decode at h
  split at h
  case h_9 => cases h
  all_goals
    obtain ⟨hrsv, rfl⟩ := whenReservedZero_ok.1 h
    simp only [beq_iff_eq, rsvFieldN_eq_zero_iff, rsvFieldT_eq_zero_iff, rsvFieldS_eq_zero_iff,
      rsvFieldR_eq_zero_iff] at hrsv
    simp only [encode_eq_iff, encodedNumber, vField_toNat, iField_toNat, refField_toNat, idxField_toNat]
    omega

theorem decode_eq_ok_iff (w : Word) (i : Instr) : decode w = .ok i ↔ encode i = w :=
  ⟨encode_of_decode, fun h => h ▸ decode_encode i⟩

theorem encode_injective {i j : Instr} (h : encode i = encode j) : i = j :=
  Except.ok.inj ((decode_encode i).symm.trans (h ▸ decode_encode j))

/-- An opcode of no row decodes to nothing, whatever the other bits (R96). -/
theorem decode_of_reserved_opcode {w : Word} (h : (opField w).toNat = 0 ∨ 9 ≤ (opField w).toNat) :
    decode w = .error .reservedOpcode := by
  unfold decode
  split
  case h_9 => rfl
  all_goals omega

/-! ### The host port's checks -/

theorem decodeHost_of_not_host_opcode {w : Word} (h : (opField w).toNat < 3 ∨ 8 < (opField w).toNat) :
    decodeHost w = .error .notHostOp := if_pos h

theorem decodeHost_of_rsvFieldN {w : Word}
    (hop : (opField w).toNat = 3 ∨ (opField w).toNat = 4 ∨ (opField w).toNat = 7) (hrsv : rsvFieldN w ≠ 0) :
    decodeHost w = .error .rsvNonzero := by
  rw [decodeHost, if_neg (by omega), if_pos ⟨hop, hrsv⟩]

theorem decodeHost_of_rsvFieldS {w : Word} (hop : (opField w).toNat = 5 ∨ (opField w).toNat = 6)
    (hrsv : rsvFieldS w ≠ 0) : decodeHost w = .error .rsvNonzero := by
  rw [decodeHost, if_neg (by omega), if_neg (by omega), if_pos ⟨hop, hrsv⟩]

theorem decodeHost_of_rsvFieldR {w : Word} (hop : (opField w).toNat = 8) (hrsv : rsvFieldR w ≠ 0) :
    decodeHost w = .error .rsvNonzero := by
  rw [decodeHost, if_neg (by omega), if_neg (by omega), if_neg (by omega), if_pos ⟨hop, hrsv⟩]

theorem decodeHost_of_unassigned_index {w : Word} (hop : (opField w).toNat = 8) (hrsv : rsvFieldR w = 0)
    (hidx : assignedIndex (idxField w) = false) : decodeHost w = .error .badIndex := by
  simp [decodeHost, hop, hrsv, hidx]

/-- A word that passes the checks is the word of the operation it stands for: of its 28 low bits only the operand's can
be set. -/
theorem encode_of_decodeHost {w : Word} {i : Instr} (h : decodeHost w = .ok i) :
    encode i = w ∧ Machine.hostOperation i = true ∧ i.wellFormed = true := by
  have hop := opField_toNat w
  simp only [decodeHost, ne_eq, rsvFieldN_eq_zero_iff, rsvFieldS_eq_zero_iff, rsvFieldR_eq_zero_iff] at h
  split at h
  · cases h
  rename_i hhost
  split at h
  · cases h
  rename_i hN
  split at h
  · cases h
  rename_i hS
  split at h
  · cases h
  rename_i hR
  split at h
  · cases h
  rename_i hidx
  rw [encode_eq_iff]
  split at h <;> cases h
  case h_6 =>
    have hread : (opField w).toNat = 8 := by
      simp only [imp_false] at *
      omega
    refine ⟨?_, rfl, eq_true_of_ne_false fun hun => hidx ⟨hread, hun⟩⟩
    simp only [encodedNumber, idxField_toNat]
    omega
  all_goals
    refine ⟨?_, rfl, rfl⟩
    simp only [encodedNumber, refField_toNat]
    omega

theorem decodeHost_eq_ok_iff (w : Word) (i : Instr) :
    decodeHost w = .ok i ↔ encode i = w ∧ Machine.hostOperation i = true ∧ i.wellFormed = true := by
  constructor
  · exact encode_of_decodeHost
  · rintro ⟨rfl, hhost, hwf⟩
    cases i with
    | tick v c => cases hhost
    | pwmLoad => cases hhost
    | start => rfl
    | stop => rfl
    | setIref ref =>
      obtain ⟨hop, hrsv, href⟩ := Laws.EncodedFields.setIref ref
      simp [decodeHost, hop, BitVec.toNat_eq, hrsv, href]
    | setVref ref =>
      obtain ⟨hop, hrsv, href⟩ := Laws.EncodedFields.setVref ref
      simp [decodeHost, hop, BitVec.toNat_eq, hrsv, href]
    | clrSec => rfl
    | read idx =>
      obtain ⟨hop, hrsv, hidx⟩ := Laws.EncodedFields.read idx
      have hassigned : assignedIndex idx = true := hwf
      simp [decodeHost, hop, BitVec.toNat_eq, hrsv, hidx, hassigned]

theorem decode_of_decodeHost {w : Word} {i : Instr} (h : decodeHost w = .ok i) : decode w = .ok i := by
  obtain ⟨rfl, -, -⟩ := encode_of_decodeHost h
  exact decode_encode i

/-- A word that is the instruction of no row is rejected at the host port. -/
theorem decodeHost_error_of_decode_error {w : Word} {e : DecodeError} (h : decode w = .error e) :
    ∃ cause, decodeHost w = .error cause := by
  cases hd : decodeHost w with
  | error cause => exact ⟨cause, rfl⟩
  | ok i => cases h.symm.trans (decode_of_decodeHost hd)

/-! ### Masked words -/

/-- A mask that leaves out the low `k` bits compares the quotients by 2^k. -/
theorem and_highMask_eq_iff (w : Word) {m mask : Word} {k q : Nat} (hmask : mask = BitVec.allOnes 32 <<< k)
    (hm : m.toNat = q * 2 ^ k) : w &&& mask = m ↔ w.toNat / 2 ^ k = q := by
  have hle := Nat.div_mul_le_self w.toNat (2 ^ k)
  have hand : (w &&& mask).toNat = w.toNat / 2 ^ k * 2 ^ k := by
    rw [hmask, ← BitVec.shiftLeft_ushiftRight, BitVec.toNat_shiftLeft, BitVec.toNat_ushiftRight, Nat.shiftLeft_eq,
      Nat.shiftRight_eq_div_pow, Nat.mod_eq_of_lt (by omega)]
  rw [← BitVec.toNat_inj, hand, hm, Nat.mul_left_inj (Nat.ne_of_gt (Nat.two_pow_pos k))]

/-- A row with no operand: its mask keeps all bits (R96). -/
theorem and_allOnes_eq_encode_iff (w : Word) (i : Instr) : w &&& 0xFFFFFFFF = encode i ↔ decode w = .ok i := by
  rw [decode_eq_ok_iff, eq_comm (a := encode i), show (0xFFFFFFFF : Word) = BitVec.allOnes 32 from rfl,
    BitVec.and_allOnes]

/-- A row with one operand in the low `k` bits: its mask keeps the bits above, and its match is the word of the row at
operand 0 (R96). -/
theorem and_highMask_eq_iff_decode (w : Word) {m mask : Word} {k : Nat} (q : Nat) (row : BitVec k → Instr)
    (hmask : mask = BitVec.allOnes 32 <<< k) (hm : m.toNat = q * 2 ^ k)
    (hrow : ∀ r, encodedNumber (row r) = q * 2 ^ k + r.toNat) : w &&& mask = m ↔ ∃ r, decode w = .ok (row r) := by
  simp only [and_highMask_eq_iff w hmask hm, decode_eq_ok_iff, encode_eq_iff, hrow]
  constructor
  · intro h
    exact ⟨BitVec.ofNat k w.toNat, by rw [BitVec.toNat_ofNat, ← h, Nat.div_add_mod']⟩
  · rintro ⟨r, hr⟩
    rw [← hr, Nat.add_comm, Nat.add_mul_div_right _ _ (Nat.two_pow_pos k), Nat.div_eq_of_lt r.isLt, Nat.zero_add]

/-- The row of TICK, whose mask leaves out both operands (R96). -/
theorem and_mask_eq_iff_decode_tick (w : Word) :
    w &&& 0xFF000000 = 0x10000000 ↔ ∃ v c, decode w = .ok (.tick v c) := by
  refine (and_highMask_eq_iff w (k := 24) (q := 0x10) rfl rfl).trans ?_
  simp only [decode_eq_ok_iff, encode_eq_iff, encodedNumber]
  constructor
  · intro h
    refine ⟨vField w, iField w, ?_⟩
    rw [vField_toNat, iField_toNat]
    omega
  · rintro ⟨v, c, h⟩
    have hv := v.isLt
    have hc := c.isLt
    omega

/-- Settles O4: a row's mask leaves out just its operands, and a word of no row fails the host port's checks too. -/
theorem wordIsARowsInstructionWhenItMatches : Obligations.WordIsARowsInstructionWhenItMatches := by
  intro w
  simp only [Instr.port, and_true]
  refine ⟨and_mask_eq_iff_decode_tick w, and_allOnes_eq_encode_iff w .pwmLoad, and_allOnes_eq_encode_iff w .start,
    and_allOnes_eq_encode_iff w .stop, ?_, ?_, and_allOnes_eq_encode_iff w .clrSec, ?_, ?_,
    fun _ => decodeHost_error_of_decode_error⟩
  · exact and_highMask_eq_iff_decode w 0x50000 .setIref rfl rfl fun _ => rfl
  · exact and_highMask_eq_iff_decode w 0x60000 .setVref rfl rfl fun _ => rfl
  · exact and_highMask_eq_iff_decode w 0x800000 .read rfl rfl fun _ => rfl
  · intro h
    refine decode_of_reserved_opcode (h.imp (fun hmask => ?_) (fun hge => ?_)) <;> rw [opField_toNat]
    · exact (and_highMask_eq_iff w rfl rfl).1 hmask
    · omega

/-- Settles O7: a host word is the encoding of at most one operation, and the host port accepts it exactly when that is a
well-formed host operation. -/
theorem hostWordIsOneOperationOrRejected : Obligations.HostWordIsOneOperationOrRejected := by
  intro w
  simp only [dispatch]
  cases hd : decodeHost w with
  | ok i =>
    obtain ⟨henc, hhost, hwf⟩ := encode_of_decodeHost hd
    exact .inl ⟨i, rfl, hhost, hwf, henc, fun j hj => encode_injective (hj.trans henc.symm)⟩
  | error cause =>
    refine .inr ⟨cause, rfl, fun i hhost hwf henc => ?_⟩
    cases hd.symm.trans ((decodeHost_eq_ok_iff w i).2 ⟨henc, hhost, hwf⟩)

end Sys2Proof
end

section
/-! SUPPORT. What an operation, a port and a rejected word answer (30_encoding.md R97–R101), and the obligations of the
encoding family about a step on a host word. -/

namespace Sys2Proof.Machine

/-! ### Responses -/

/-- A register of the READ index space has a value (10_state.md R49). -/
theorem State.exists_regval_of_assigned (s : State) {idx : Byte} (h : assignedIndex idx = true) :
    ∃ data, s.regval idx = some data := by
  rw [assignedIndex_iff] at h
  unfold State.regval
  split
  case h_18 => simp only [imp_false] at *; omega
  all_goals exact ⟨_, rfl⟩

/-- An operation of another port answers nothing (R101). -/
theorem exec_responses_of_not_host {i : Instr} {s t : State} (h : exec i s = .next t)
    (hport : hostOperation i = false) : t.responses = s.responses := by
  cases i with
  | tick v c =>
    by_cases hc : s.countdown = 1
    · cases (exec_tick_closing v c hc).symm.trans h
      simp
    · cases (exec_tick_inside v c hc).symm.trans h
      simp
  | pwmLoad => cases h; rfl
  | start | stop | setIref | setVref | clrSec | read => cases hport

/-- A well-formed host operation answers once, READ with its value and the others with 0 (R101). -/
theorem exec_responses_of_host {i : Instr} {s t : State} (h : exec i s = .next t)
    (hport : hostOperation i = true) (hwf : i.wellFormed = true) :
    ∃ data, t.responses = s.responses ++ [⟨true, data⟩] ∧
      (∀ idx, i = .read idx → s.regval idx = some data) ∧ ((∀ idx, i ≠ .read idx) → data = 0) := by
  cases i with
  | tick | pwmLoad => cases hport
  | start | stop | setIref | setVref | clrSec => cases h; exact ⟨0, by simp, nofun, fun _ => rfl⟩
  | read idx =>
    obtain ⟨data, hval⟩ := s.exists_regval_of_assigned hwf
    obtain ⟨data', hval', hexec⟩ | ⟨hnone, -⟩ := exec_read idx s
    · cases hexec.symm.trans h
      refine ⟨data', by simp, ?_, fun hne => absurd rfl (hne idx)⟩
      rintro _ ⟨⟩
      exact hval'
    · cases hnone.symm.trans hval

/-- Only the host port rejects a word (30_encoding.md R98, R100). -/
theorem port_of_dispatch_error {p : Port} {w : Word} {cause : Cause} (h : dispatch p w = .error cause) :
    p = .host := by
  cases p with
  | tick | timebase => cases h
  | host => rfl

/-- A word dispatches to an operation of the port it stands at (R97, R100). -/
theorem port_of_dispatch_ok {p : Port} {w : Word} {i : Instr} (h : dispatch p w = .ok i) :
    hostOperation i = (p == .host) := by
  cases p with
  | tick | timebase => cases h; rfl
  | host =>
    obtain ⟨-, hhost, -⟩ := encode_of_decodeHost h
    exact hhost

/-- Settles O49: a rejected word is one response, and an operation of the host port, and of no other, answers once. -/
theorem everyHostWordGetsOneResponse : Obligations.EveryHostWordGetsOneResponse := by
  intro s t x rest hr hp hstep
  cases hd : dispatch x.port x.word with
  | error cause =>
    have hport := port_of_dispatch_error hd
    cases (step_of_dispatch_error hr hp hd).symm.trans hstep
    constructor
    · rintro w rfl
      exact ⟨⟨false, causeCode cause⟩, by simp [State.reject], .inl ⟨cause, hd, rfl, rfl⟩⟩
    · intro hx
      cases x with
      | tick | timebase => cases hport
      | host w => exact absurd rfl (hx w)
  | ok i =>
    have hexec := (step_of_dispatch_ok hr hp hd).symm.trans hstep
    have hport := port_of_dispatch_ok hd
    constructor
    · rintro w rfl
      obtain ⟨-, hhost, hwf⟩ := encode_of_decodeHost hd
      obtain ⟨data, hresp, hread, hother⟩ := exec_responses_of_host hexec hhost hwf
      exact ⟨⟨true, data⟩, hresp, .inr ⟨i, hd, rfl, hread, hother⟩⟩
    · intro hx
      cases x with
      | tick | timebase => exact (exec_responses_of_not_host hexec hport :)
      | host w => exact absurd rfl (hx w)

/-! ### Rejects -/

/-- Settles O5: each malformation is one of the checks of dispatch, and a rejected word is answered and taken off. -/
theorem malformedHostWordIsRejected : Obligations.MalformedHostWordIsRejected := by
  intro s w rest hr hp
  have hreject {cause : Cause} (h : decodeHost w = .error cause) :
      step s = .next (({ s with pending := rest } : State).reject cause) := step_of_dispatch_error hr hp h
  simp only [← opField_toNat, ne_eq, ← rsvFieldN_eq_zero_iff, ← rsvFieldS_eq_zero_iff, ← rsvFieldR_eq_zero_iff]
  refine ⟨fun hop => hreject (decodeHost_of_not_host_opcode hop), ?_, ?_⟩
  · rintro (⟨hop, hrsv⟩ | ⟨hop, hrsv⟩ | ⟨hop, hrsv⟩)
    · exact hreject (decodeHost_of_rsvFieldN hop hrsv)
    · exact hreject (decodeHost_of_rsvFieldS hop hrsv)
    · exact hreject (decodeHost_of_rsvFieldR hop hrsv)
  · rintro ⟨hop, hrsv, hidx⟩
    rw [← idxField_toNat, ← Nat.not_lt, ← assignedIndex_iff, Bool.not_eq_true] at hidx
    exact hreject (decodeHost_of_unassigned_index hop hrsv hidx)

end Sys2Proof.Machine
end

section
/-! SUPPORT. The seconds counter and the one-second flag (40_scheduler.md R125, R126): what a window close, START and
CLR_SEC leave in them, and the obligations of the scheduler family. -/

namespace Sys2Proof.Machine

/-- A close steps the counter and sets the flag, and the control cycle it may trigger touches neither (R125–R127). -/
theorem seconds_secFlag_of_closesWindow {i : Instr} {s t : State} (h : exec i s = .next t) (hc : closesWindow i s) :
    t.seconds = s.seconds + 1 ∧ t.secFlag = true := by
  obtain ⟨⟨v, c, rfl⟩, hone⟩ := hc
  cases (exec_tick_closing v c hone).symm.trans h
  simp

theorem seconds_of_exec_start {s t : State} (h : exec .start s = .next t) : t.seconds = 0 := by
  cases h
  rfl

theorem secFlag_of_exec_clrSec {s t : State} (h : exec .clrSec s = .next t) : t.secFlag = false := by
  cases (exec_clrSec s).symm.trans h
  simp

/-- Settles O32: the writers of the two fields by what each leaves in them, every other operation by the table of
writers. -/
theorem secondsAndFlagFollowWindowCloses : Obligations.SecondsAndFlagFollowWindowCloses := by
  intro i s t h
  obtain ⟨-, -, hflag, -, -, -, -, -, -, -, -, hseconds, -⟩ := onlyMarkedOperationsWriteAField i s t h
  refine ⟨seconds_secFlag_of_closesWindow h, fun hclose hstart => ?_, ?_, fun hclose hclr => ?_, ?_⟩
  · exact Classical.byContradiction fun hne => (hseconds hne).elim hclose hstart
  · rintro rfl
    exact seconds_of_exec_start h
  · exact Classical.byContradiction fun hne => (hflag hne).elim hclose hclr
  · rintro rfl
    exact secFlag_of_exec_clrSec h

end Sys2Proof.Machine
end

section
/-! SUPPORT. The mode machine (42_mode_fsm.md): the operand pair of each mode, when a control cycle crosses over, and
what leads out of CV; with the obligations of its family. -/

namespace Sys2Proof.Machine

/-! ### Operand selection (R183) -/

theorem State.select_of_cc {s : State} (h : s.mode = .cc) : s.select = (s.iAvg, s.iRef) := by simp [State.select, h]

theorem State.select_of_cv {s : State} (h : s.mode = .cv) : s.select = (s.vAvg, s.vRef) := by simp [State.select, h]

/-- A cycle that crosses over computes in the state after the crossover, whose pair is CV's. -/
theorem State.regulate_of_due {s : State} (h : s.crossoverDue = true) :
    s.regulate = s.crossover.piCompute s.vAvg s.vRef := by
  have hpair : s.crossover.select = (s.vAvg, s.vRef) := State.select_of_cv rfl
  have heval : s.modeEval = s.crossover := s.modeEval_of_due h
  simp [State.regulate, heval, hpair]

/-- A cycle that does not cross over computes with the pair of the mode it finds. -/
theorem State.regulate_of_not_due {s : State} (h : s.crossoverDue = false) :
    s.regulate = s.piCompute s.select.1 s.select.2 := by
  simp [State.regulate, s.modeEval_of_not_due h]

/-- Settles O38: the pair by the mode, and the cycle by whether its mode evaluation crosses over. -/
theorem pairIsSelectedByTheModeAfterCrossover : Obligations.PairIsSelectedByTheModeAfterCrossover := by
  intro s
  refine ⟨State.select_of_cc, State.select_of_cv, fun hcc habove => ?_, fun hcc hbelow => ?_, fun hcv => ?_⟩
  · exact State.regulate_of_due (s.crossoverDue_iff.2 ⟨hcc, habove⟩)
  · have hnot : s.crossoverDue = false := by simp [State.crossoverDue, hbelow]
    rw [State.regulate_of_not_due hnot, State.select_of_cc hcc]
  · have hnot : s.crossoverDue = false := by simp [State.crossoverDue, hcv]
    rw [State.regulate_of_not_due hnot, State.select_of_cv hcv]

/-! ### The crossover (R181, R187) -/

/-- From CC a mode evaluation leads to CV exactly when the voltage average exceeds the reference. -/
theorem State.modeEval_mode_eq_cv_iff {s : State} (hcc : s.mode = .cc) :
    s.modeEval.mode = .cv ↔ s.vRef.toNat < s.vAvg.toNat := by
  obtain ⟨-, habove, hcross⟩ | ⟨hnot, hsame⟩ := s.modeEval_cases
  · simp [hcross, habove]
  · have hbelow : ¬ s.vRef.toNat < s.vAvg.toNat := fun habove => hnot ⟨hcc, habove⟩
    simp [hsame, hcc, hbelow]

/-- What follows a close evaluates the mode only while running (40_scheduler.md R127). -/
theorem State.afterClose_mode_eq_cv_iff {s : State} (hcc : s.mode = .cc) :
    s.afterClose.mode = .cv ↔ s.running = true ∧ s.vRef.toNat < s.vAvg.toNat := by
  cases hrun : s.running with
  | false => simp [s.afterClose_of_stopped hrun, hcc]
  | true => simp [s.afterClose_of_running hrun, State.modeEval_mode_eq_cv_iff hcc]

/-- Settles O39: a TICK inside a window leaves the mode, and one that closes it compares the average it has just
written, which nothing after the close overwrites. -/
theorem crossoverFiresOnTheFreshAverage : Obligations.CrossoverFiresOnTheFreshAverage := by
  intro v c s t h hcc
  by_cases hone : s.countdown = 1
  · cases (exec_tick_closing v c hone).symm.trans h
    have hclosed : (s.accumulate v c).countDown.closeWindow.mode = .cc := hcc
    simp [State.afterClose_mode_eq_cv_iff hclosed, hone]
  · cases (exec_tick_inside v c hone).symm.trans h
    exact iff_of_false (by simp [hcc]) fun ⟨hclose, _⟩ => hone hclose

/-! ### Out of CV (R186) -/

theorem mode_of_exec_setVref {ref : Sample} {s t : State} (h : exec (.setVref ref) s = .next t) : t.mode = .cv := by
  cases (exec_setVref ref s).symm.trans h
  simp

/-- Settles O52: of the writers of the mode a window close starts from CC, and SET_VREF ends in CV. -/
theorem onlySetIrefOrStartLeavesCV : Obligations.OnlySetIrefOrStartLeavesCV := by
  intro i s t h hcv hcc
  have hchanged : t.mode ≠ s.mode := by simp [hcv, hcc]
  obtain ⟨-, hwriters, -⟩ := onlyMarkedOperationsWriteAField i s t h
  obtain ⟨-, hfrom, -⟩ | hstart | hiref | ⟨ref, rfl⟩ := hwriters hchanged
  · cases hcv.symm.trans hfrom
  · exact .inr hstart
  · exact .inl hiref
  · cases hcc.symm.trans (mode_of_exec_setVref h)

end Sys2Proof.Machine
end

section
/-! SUPPORT. One step on each port's word (30_encoding.md R97–R102, 20_memory.md R73–R76): what a well-formed word at
its port dispatches to, what every operation leaves alone, and the obligations about encodings and single steps. -/

namespace Sys2Proof

/-- Settles O2: the encoder's fields are the ones the decoder reads. -/
theorem decodeOfEncode : Obligations.DecodeOfEncode := decode_encode

/-- Settles O3: a decoded word has no bit outside its row's match and its operands. -/
theorem encodeOfDecode : Obligations.EncodeOfDecode := fun _ _ h => encode_of_decode h

/-- Settles O1: each of the eleven words is the encoding of its instruction. -/
theorem writtenOutWordsDecode : Obligations.WrittenOutWordsDecode :=
  ⟨decode_encode (.tick 1000 2048), decode_encode (.tick 4095 4095), decode_encode (.tick 0 0), decode_encode .pwmLoad,
    decode_encode .start, decode_encode .stop, decode_encode (.setIref 164), decode_encode (.setVref 4095),
    decode_encode .clrSec, decode_encode (.read 0x00), decode_encode (.read 0x10)⟩

/-! ### Dispatch at an operation's own port -/

theorem hostOperation_iff_port (i : Instr) : Machine.hostOperation i = true ↔ i.port = .host := by
  simp [Machine.hostOperation]

/-- A word that decodes to a well-formed operation of the port it stands at dispatches to that operation. -/
theorem dispatch_of_decode {x : Input} {i : Instr} (hd : decode x.word = .ok i) (hwf : i.wellFormed = true)
    (hport : i.port = x.port) : dispatch x.port x.word = .ok i := by
  cases x with
  | tick v c =>
    cases (decode_encode (.tick v c)).symm.trans hd
    obtain ⟨-, -, hv, hc⟩ := Laws.EncodedFields.tick v c
    simp [dispatch, Input.port, Input.word, hv, hc]
  | timebase =>
    cases (decode_encode .pwmLoad).symm.trans hd
    rfl
  | host w => exact (decodeHost_eq_ok_iff w i).2 ⟨encode_of_decode hd, (hostOperation_iff_port i).2 hport, hwf⟩

theorem dispatch_tick (v c : Sample) : dispatch (Input.tick v c).port (Input.tick v c).word = .ok (.tick v c) :=
  dispatch_of_decode (decode_encode _) rfl rfl

theorem dispatch_timebase : dispatch Input.timebase.port Input.timebase.word = .ok .pwmLoad := rfl

namespace Machine

/-! ### Every operation completes and leaves the words, the reset request and the configuration alone -/

theorem exec_completes (i : Instr) (s : State) : ∃ t, exec i s = .next t := by
  cases i with
  | tick v c =>
    by_cases hone : s.countdown = 1
    · exact ⟨_, exec_tick_closing v c hone⟩
    · exact ⟨_, exec_tick_inside v c hone⟩
  | pwmLoad | start | stop | setIref | setVref | clrSec => exact ⟨_, rfl⟩
  | read idx =>
    obtain ⟨_, -, h⟩ | ⟨-, h⟩ := exec_read idx s
    · exact ⟨_, h⟩
    · exact ⟨_, h⟩

theorem exec_keeps_words_and_cfg {i : Instr} {s t : State} (h : exec i s = .next t) :
    t.pending = s.pending ∧ t.resetPending = s.resetPending ∧ t.cfg = s.cfg := by
  obtain ⟨-, -, -, -, -, -, -, -, -, -, -, -, -, -, -, -, -, hkept⟩ := onlyMarkedOperationsWriteAField i s t h
  exact hkept

theorem exec_keeps_cfg {i : Instr} {s t : State} (h : exec i s = .next t) : t.cfg = s.cfg :=
  (exec_keeps_words_and_cfg h).2.2

theorem step_completes (s : State) : ∃ t, step s = .next t := by
  unfold step
  split
  case h_4 i rest _ => exact exec_completes i rest
  all_goals exact ⟨_, rfl⟩

/-- Settles O48: no arm of an operation or of a step stops. -/
theorem nothingStopsTheBlock : Obligations.NothingStopsTheBlock := ⟨exec_completes, step_completes⟩

/-! ### A step by the next word's port -/

/-- Settles O9: the decoded word dispatches to its instruction. -/
theorem stepRunsTheDecodedInstruction : Obligations.StepRunsTheDecodedInstruction :=
  fun _ _ _ _ hr hp hd hwf hport => step_of_dispatch_ok hr hp (dispatch_of_decode hd hwf hport)

/-- Settles O8: dispatch checks nothing at the tick and the timebase port. -/
theorem tickAndTimebaseWordsAlwaysRun : Obligations.TickAndTimebaseWordsAlwaysRun := fun _ _ hr =>
  ⟨fun v c hp => step_of_dispatch_ok hr hp (dispatch_tick v c), fun hp => step_of_dispatch_ok hr hp dispatch_timebase⟩

/-- A host word given as a number runs the operation whose encoded number it is. -/
theorem step_of_encodedNumber {s : State} {w : Word} {rest : List Input} {i : Instr} (hr : s.resetPending = false)
    (hp : s.pending = .host w :: rest) (hhost : hostOperation i = true) (hwf : i.wellFormed = true)
    (hw : w.toNat = encodedNumber i) : step s = exec i { s with pending := rest } :=
  step_of_dispatch_ok hr hp ((decodeHost_eq_ok_iff w i).2 ⟨(encode_eq_iff w i).2 hw.symm, hhost, hwf⟩)

/-- Settles O6: each opcode over a zero reserved field is the encoded number of its operation. -/
theorem wellFormedHostWordRunsItsOperation : Obligations.WellFormedHostWordRunsItsOperation := by
  intro s w rest hr hp
  have hruns (i : Instr) := step_of_encodedNumber (i := i) hr hp
  have href (r : Nat) (hlt : r < 2 ^ 12) : (BitVec.ofNat 12 r).toNat = r := Nat.mod_eq_of_lt hlt
  refine ⟨hruns .start rfl rfl, hruns .stop rfl rfl, fun r hlt hw => hruns (.setIref _) rfl rfl ?_,
    fun r hlt hw => hruns (.setVref _) rfl rfl ?_, hruns .clrSec rfl rfl, fun x hlt hw => ?_⟩
  · rw [hw, encodedNumber, href r hlt]
  · rw [hw, encodedNumber, href r hlt]
  · have hx : (BitVec.ofNat 8 x : Byte).toNat = x := Nat.mod_eq_of_lt (by omega)
    exact hruns (.read _) rfl ((assignedIndex_iff _).2 (by rw [hx]; exact hlt)) (by rw [hw, encodedNumber, hx])

/-- Settles O10: an operation and a reject both leave the waiting words as they find them. -/
theorem stepTakesExactlyOneWord : Obligations.StepTakesExactlyOneWord := by
  intro s t x rest hr hp hstep
  cases hd : dispatch x.port x.word with
  | error cause =>
    cases (step_of_dispatch_error hr hp hd).symm.trans hstep
    exact ⟨rfl, hr⟩
  | ok i =>
    obtain ⟨hpending, hreset, -⟩ := exec_keeps_words_and_cfg ((step_of_dispatch_ok hr hp hd).symm.trans hstep)
    exact ⟨hpending, hreset.trans hr⟩

/-- Settles O11: with nothing to fetch a step is idle. -/
theorem idleBlockDoesNotMove : Obligations.IdleBlockDoesNotMove := by
  intro s hr hp
  simp [step, State.fetch, hr, hp]

/-- A step on one waiting host word: its operation, or its cause. -/
theorem step_of_last_host_word {u : State} {w : Word} (hr : u.resetPending = false) (hp : u.pending = [.host w]) :
    u.pending = [.host w] ∧
    (∀ i, dispatch .host w = .ok i → step u = exec i { u with pending := [] }) ∧
    (∀ cause, dispatch .host w = .error cause →
      step u = .next { u with pending := [], responses := u.responses ++ [⟨false, causeCode cause⟩] }) :=
  ⟨hp, fun _ hd => step_of_dispatch_ok hr hp hd, fun _ hd => step_of_dispatch_error hr hp hd⟩

/-- A waiting PWM_LOAD loads the shadow. -/
theorem step_of_timebase {t : State} {rest : List Input} (hr : t.resetPending = false)
    (hp : t.pending = .timebase :: rest) :
    step t = .next { t with pending := rest, dutyActive := t.dutyShadow } :=
  step_of_dispatch_ok hr hp dispatch_timebase

/-- A waiting TICK runs, and leaves the words behind it. -/
theorem step_of_tick {s : State} {v c : Sample} {rest : List Input} (hr : s.resetPending = false)
    (hp : s.pending = .tick v c :: rest) :
    ∃ t, step s = .next t ∧ exec (.tick v c) { s with pending := rest } = .next t ∧
      t.resetPending = false ∧ t.pending = rest := by
  obtain ⟨t, hexec⟩ := exec_completes (.tick v c) { s with pending := rest }
  obtain ⟨hpending, hreset, -⟩ := exec_keeps_words_and_cfg hexec
  exact ⟨t, (step_of_dispatch_ok hr hp (dispatch_tick v c)).trans hexec, hexec, hreset.trans hr, hpending⟩

/-- Settles O12: the words of a cycle wait in port order, and each step takes the first. -/
theorem sameCycleWordsApplyInPortOrder : Obligations.SameCycleWordsApplyInPortOrder := by
  intro s v c w hr hp
  have harrive (k : Cycle) : (s.arrive k).pending = cycleInputs k := by simp [hp]
  refine ⟨?_, ?_, ?_, ?_⟩
  · obtain ⟨t, hstep, hexec, htr, htp⟩ := step_of_tick (s := s.arrive ⟨some (v, c), true, some w⟩) hr (harrive _)
    exact ⟨t, hstep, hexec, step_of_timebase htr htp, step_of_last_host_word htr rfl⟩
  · obtain ⟨t, hstep, hexec, htr, htp⟩ := step_of_tick (s := s.arrive ⟨some (v, c), true, none⟩) hr (harrive _)
    exact ⟨t, hstep, hexec, step_of_timebase htr htp⟩
  · obtain ⟨t, hstep, hexec, htr, htp⟩ := step_of_tick (s := s.arrive ⟨some (v, c), false, some w⟩) hr (harrive _)
    exact ⟨t, hstep, hexec, step_of_last_host_word htr htp⟩
  · exact ⟨step_of_timebase (t := s.arrive ⟨none, true, some w⟩) hr (harrive _), step_of_last_host_word hr rfl⟩

end Machine

end Sys2Proof
end

section
/-! SUPPORT. The reset (70_reset_and_hazards.md R280–R282), the host's commands (43_host_commands.md), START and STOP
(44_start_stop.md) and PWM_LOAD (45_pwm_driver.md): the obligations that say the whole next state or an output level. -/

namespace Sys2Proof.Machine

/-! ### Reset -/

/-- A reset asked for puts the block at power-on under its own configuration (R281). -/
theorem step_of_resetPending {s : State} (h : s.resetPending = true) : step s = .next (State.powerOn s.cfg) := by
  simp [step, State.fetch, h]

/-- Settles O13: the next state is the power-on state, whose fields are the reset values. -/
theorem resetGivesEveryFieldItsResetValue : Obligations.ResetGivesEveryFieldItsResetValue :=
  fun _ h => step_of_resetPending h

theorem State.cellLevel_iff (s : State) (k : Nat) : s.cellLevel k = true ↔ s.activeCell.val = k := by
  simp [State.cellLevel]

/-- With no cell relay energized every cell level is off. -/
theorem State.cellLevel_of_activeCell_zero {s : State} {k : Nat} (h : s.activeCell = 0) (hk : 1 ≤ k) :
    s.cellLevel k = false := by
  have hne : ¬ s.activeCell.val = k := by
    rw [h]
    exact Nat.ne_of_lt hk
  simpa [State.cellLevel] using hne

/-- Settles O14: the levels are the active code, the flag and the active cell, which START sets to 1 and STOP to 0. -/
theorem outputsRightAfterReset : Obligations.OutputsRightAfterReset := by
  refine ⟨fun c => ⟨ofNat_dcMin_toNat c, rfl, fun k hk _ => State.cellLevel_of_activeCell_zero rfl hk, rfl⟩,
    fun s k _ _ => s.cellLevel_iff k, ?_, ?_⟩
  · rintro s t ⟨⟩
    exact ⟨rfl, rfl, rfl, rfl⟩
  · rintro s t ⟨⟩ k hk -
    exact State.cellLevel_of_activeCell_zero rfl hk

/-- The STATUS word as a number: its bits at their places (10_state.md R49). -/
theorem State.statusWord_toNat (s : State) : s.statusWord.toNat =
    s.running.toNat + 2 * (if s.mode = .cv then 1 else 0) + 4 * s.secFlag.toNat + 16 * s.activeCell.val := by
  have hcell : (BitVec.ofNat 3 s.activeCell.val).toNat = s.activeCell.val := Nat.mod_eq_of_lt (by omega)
  have hmode : s.mode.bit.toNat = if s.mode = .cv then 1 else 0 := by cases s.mode <;> rfl
  simp only [State.statusWord, append_toNat, hcell, BitVec.toNat_ofBool, hmode, BitVec.ofNat_eq_ofNat,
    BitVec.toNat_ofNat]
  omega

/-- DC_MIN as a register value of 32 bits is still DC_MIN. -/
theorem setWidth_ofNat_dcMin_toNat (c : Config) :
    ((BitVec.ofNat 9 c.params.dcMin : Duty).setWidth 32).toNat = c.params.dcMin := by
  rw [BitVec.toNat_setWidth_of_le (by decide), ofNat_dcMin_toNat]

/-- Settles O15: each index reads a field at its reset value, the two duty codes DC_MIN. -/
theorem readValuesRightAfterReset : Obligations.ReadValuesRightAfterReset := fun c =>
  have hstatus : (State.powerOn c).statusWord = 0 := BitVec.eq_of_toNat_eq (State.statusWord_toNat _)
  ⟨congrArg some hstatus, rfl, rfl, rfl, rfl, rfl, rfl, rfl, rfl, rfl, rfl, rfl, rfl, rfl, rfl,
    ⟨_, rfl, setWidth_ofNat_dcMin_toNat c⟩, ⟨_, rfl, setWidth_ofNat_dcMin_toNat c⟩⟩

/-- Settles O17: a reset, a reject and every operation keep the configuration. -/
theorem noStepWritesTheConfiguration : Obligations.NoStepWritesTheConfiguration := by
  intro s t h
  obtain ⟨-, rfl⟩ | ⟨-, -, rfl⟩ | ⟨x, rest, cause, -, -, -, rfl⟩ | ⟨x, rest, i, -, -, -, hexec⟩ := step_cases h
  · rfl
  · rfl
  · rfl
  · exact (exec_keeps_cfg hexec :)

/-! ### Mode entry by the host -/

/-- Settles O40: entering CC does nothing in CC and switches the mode in CV. -/
theorem setIrefResult : Obligations.SetIrefResult := by
  intro ref s
  refine ⟨fun hcc => ?_, fun hcv => ?_⟩ <;> rw [exec_setIref]
  · rw [State.enterMode_same { s with iRef := ref } hcc]
    rfl
  · rw [State.enterMode_other { s with iRef := ref } (m := .cc) (by simp [hcv])]
    rfl

/-- Settles O41: entering CV does nothing in CV and switches the mode in CC. -/
theorem setVrefResult : Obligations.SetVrefResult := by
  intro ref s
  refine ⟨fun hcv => ?_, fun hcc => ?_⟩ <;> rw [exec_setVref]
  · rw [State.enterMode_same { s with vRef := ref } hcv]
    rfl
  · rw [State.enterMode_other { s with vRef := ref } (m := .cv) (by simp [hcc])]
    rfl

/-- Settles O37: a crossover is the switch to CV. -/
theorem crossoverEffect : Obligations.CrossoverEffect := fun _ => rfl

/-! ### The flag, the reads, the sequences and the duty load -/

/-- Settles O42: CLR_SEC clears the flag, which is the level. -/
theorem clrSecResult : Obligations.ClrSecResult := fun s => ⟨exec_clrSec s, rfl, rfl⟩

/-- READ of an index with a value answers it. -/
theorem exec_read_of_regval {s : State} {idx : Byte} {data : Word} (h : s.regval idx = some data) :
    exec (.read idx) s = .next { s with responses := s.responses ++ [⟨true, data⟩] } := by
  obtain ⟨data', hval, hexec⟩ | ⟨hnone, -⟩ := exec_read idx s
  · cases hval.symm.trans h
    exact hexec
  · cases hnone.symm.trans h

/-- No index from 0x11 on has a register (10_state.md R49). -/
theorem State.regval_of_unassigned (s : State) {idx : Byte} (h : 0x11 ≤ idx.toNat) : s.regval idx = none := by
  unfold State.regval
  split
  case h_18 => rfl
  all_goals omega

/-- Settles O43: READ answers the register's word of each assigned index and rejects the others. -/
theorem readResult : Obligations.ReadResult := by
  intro s
  simp only [BitVec.ofNat_toNat]
  refine ⟨⟨s.statusWord, exec_read_of_regval rfl, s.statusWord_toNat⟩,
    exec_read_of_regval rfl, exec_read_of_regval rfl, exec_read_of_regval rfl, exec_read_of_regval rfl,
    exec_read_of_regval rfl, exec_read_of_regval rfl, exec_read_of_regval rfl, exec_read_of_regval rfl,
    exec_read_of_regval rfl, exec_read_of_regval rfl, exec_read_of_regval rfl, exec_read_of_regval rfl,
    exec_read_of_regval rfl, exec_read_of_regval rfl, exec_read_of_regval rfl, exec_read_of_regval rfl,
    fun idx hidx => ?_⟩
  obtain ⟨data, hval, -⟩ | ⟨-, hexec⟩ := exec_read idx s
  · cases hval.symm.trans (s.regval_of_unassigned hidx)
  · exact hexec

/-- Settles O44: the sequence of R220 run through. -/
theorem startResult : Obligations.StartResult := by
  intro s
  simp [exec, execStart, State.switchMode, State.loadGains, gainSet, State.dutyToMin, dutyFloor, State.dutyWrite,
    State.emit, State.freshWindow, State.setRunning, State.respond, F32.zero]

/-- Settles O45: the sequence of R221 run through. -/
theorem stopResult : Obligations.StopResult := by
  intro s
  simp [exec, execStop, State.dutyToMin, dutyFloor, State.dutyWrite, State.emit, State.setRunning, State.respond]

/-- Settles O46: PWM_LOAD copies the shadow, and the level is the active code. -/
theorem pwmLoadResult : Obligations.PwmLoadResult := fun s => ⟨exec_pwmLoad s, rfl, rfl⟩

end Sys2Proof.Machine
end

section
/-! SUPPORT. The window (40_scheduler.md R120–R128, 10_state.md R50 items 3 and 4): the exact sums of its accumulators,
the rounded average, runs of operations, and the obligations of TICK. -/

namespace Sys2Proof.Machine

/-! ### One TICK -/

/-- Settles O25: inside a window the accumulators and the countdown are all that a TICK writes. -/
theorem tickInsideAWindow : Obligations.TickInsideAWindow := fun v c _ h => exec_tick_inside v c h

/-- Settles O27: what follows a close is nothing while stopped. -/
theorem tickClosesAWindowWhileStopped : Obligations.TickClosesAWindowWhileStopped := by
  intro v c s hone hstopped
  have hclosed : (s.accumulate v c).countDown.closeWindow.running = false := hstopped
  rw [exec_tick_closing v c hone, State.afterClose_of_stopped _ hclosed]
  rfl

/-! The next equations are proved by `(rfl)`, in parentheses so that Lean does not also try them as definitional
rewrites, which would run the arithmetic. -/

/-- A closing TICK up to the control cycle, as one update. -/
theorem State.closed_eq (v c : Sample) (s : State) : (s.accumulate v c).countDown.closeWindow =
    { s with
      vAvg := average (s.vAcc + v.setWidth 22), iAvg := average (s.iAcc + c.setWidth 22), vAcc := 0, iAcc := 0,
      countdown := 1024, seconds := s.seconds + 1, secFlag := true } := (rfl)

/-- The control law followed by the duty write, as one update. -/
theorem State.dutyWrite_piCompute (u : State) (fb sp : Sample) :
    (u.piCompute fb sp).dutyWrite (F32.trunc9 (u.piCompute fb sp).dutyAcc) =
      { u with
        lastError := (u.piCompute fb sp).lastError
        errorAcc := (u.piCompute fb sp).errorAcc
        dutyAcc := (u.piCompute fb sp).dutyAcc
        dutyShadow := F32.trunc9 (u.piCompute fb sp).dutyAcc
        out := u.out ++ [.setDuty (F32.trunc9 (u.piCompute fb sp).dutyAcc)] } := (rfl)

theorem State.piCompute_lastError (u : State) (fb sp : Sample) : (u.piCompute fb sp).lastError =
    F32.clamp (controlError fb sp) u.cfg.errMin u.cfg.errMax := (rfl)

theorem State.piCompute_errorAcc (u : State) (fb sp : Sample) : (u.piCompute fb sp).errorAcc =
    F32.add u.errorAcc (F32.mul u.ki (u.piCompute fb sp).lastError) := (rfl)

theorem State.piCompute_dutyAcc (u : State) (fb sp : Sample) : (u.piCompute fb sp).dutyAcc =
    F32.clamp (F32.add (F32.add u.dutyAcc (F32.mul u.kd (F32.sub (controlError fb sp) u.lastError)))
      (F32.add (F32.mul (u.piCompute fb sp).lastError u.kp) (u.piCompute fb sp).errorAcc))
      (dutyFloor u.cfg) (dutyCeiling u.cfg) := (rfl)

/-- Settles O28: a close, then the control cycle with or without the crossover, and without it by the mode. -/
theorem tickClosesAWindowWhileRunning : Obligations.TickClosesAWindowWhileRunning := by
  intro v c s hone hrun sumV sumI vAvg iAvg crosses
  have hclosed : (s.accumulate v c).countDown.closeWindow.running = true := hrun
  have hdue : (s.accumulate v c).countDown.closeWindow.crossoverDue = crosses := rfl
  rw [exec_tick_closing v c hone, State.afterClose_of_running _ hclosed, State.controlCycle_eq]
  rw [State.closed_eq] at hdue ⊢
  cases hcross : crosses with
  | true =>
    rw [State.regulate_of_due (hdue.trans hcross), crossoverEffect, State.dutyWrite_piCompute]
    simp only [if_true, reduceCtorEq, if_false, State.piCompute_dutyAcc, State.piCompute_errorAcc,
      State.piCompute_lastError, controlError, dutyFloor, dutyCeiling]
    rfl
  | false =>
    rw [State.regulate_of_not_due (hdue.trans hcross), State.dutyWrite_piCompute]
    cases hmode : s.mode with
    | cc =>
      simp only [Bool.false_eq_true, if_true, if_false, State.select, State.piCompute_dutyAcc,
        State.piCompute_errorAcc, State.piCompute_lastError, controlError, dutyFloor, dutyCeiling]
      rfl
    | cv =>
      simp only [Bool.false_eq_true, reduceCtorEq, if_false, State.select, State.piCompute_dutyAcc,
        State.piCompute_errorAcc, State.piCompute_lastError, controlError, dutyFloor, dutyCeiling]
      rfl

/-! ### The sums and the average -/

theorem sample_toNat_le (x : Sample) : x.toNat ≤ 4095 := Nat.le_of_lt_succ x.isLt

/-- Short of 1024 samples, adding one is exact in 22 bits. -/
theorem add_sample_toNat {acc : Accumulator} (x : Sample) (h : acc.toNat ≤ 1023 * 4095) :
    (acc + x.setWidth 22).toNat = acc.toNat + x.toNat := by
  have hx := sample_toNat_le x
  rw [BitVec.toNat_add, BitVec.toNat_setWidth_of_le (by decide)]
  omega

/-- The average of a sum that a window can hold is not cut by its 12 bits (R124). -/
theorem average_toNat {acc : Accumulator} (h : acc.toNat ≤ 1024 * 4095) :
    (average acc).toNat = acc.toNat / 2 ^ 10 + acc.toNat / 2 ^ 9 % 2 := by
  rw [average, BitVec.toNat_ofNat]
  omega

/-- Settles O29: the bit below the quotient is the half that rounds it up. -/
theorem averageRoundsToNearest : Obligations.AverageRoundsToNearest := by
  intro acc h
  simp only [average_toNat h, Nat.shiftRight_eq_div_pow, Nat.and_one_is_mod]
  exact ⟨trivial, by omega, by omega⟩

/-! ### The window's part of the invariant -/

/-- R50 items 3 and 4: an open window with its countdown in range and its accumulators within the samples taken. -/
structure State.WindowInv (s : State) : Prop where
  countdown : 1 ≤ s.countdown.toNat ∧ s.countdown.toNat ≤ windowSize
  iAcc : s.iAcc.toNat ≤ s.samplesTaken * 4095
  vAcc : s.vAcc.toNat ≤ s.samplesTaken * 4095

theorem State.Inv.window {s : State} (h : s.Inv) : s.WindowInv := ⟨h.countdown, h.iAcc, h.vAcc⟩

/-- A fresh window holds nothing. -/
theorem State.windowInv_of_fresh {s : State} (hc : s.countdown = 1024) (hi : s.iAcc = 0) (hv : s.vAcc = 0) :
    s.WindowInv := by
  refine ⟨?_, ?_, ?_⟩
  · rw [hc]
    decide
  · simp [hi]
  · simp [hv]

theorem State.WindowInv.samplesTaken_le {s : State} (h : s.WindowInv) : s.samplesTaken ≤ 1023 := by
  have hpos := h.countdown.1
  simp only [State.samplesTaken, windowSize]
  omega

theorem State.WindowInv.iAcc_le {s : State} (h : s.WindowInv) : s.iAcc.toNat ≤ 1023 * 4095 :=
  Nat.le_trans h.iAcc (Nat.mul_le_mul_right 4095 h.samplesTaken_le)

theorem State.WindowInv.vAcc_le {s : State} (h : s.WindowInv) : s.vAcc.toNat ≤ 1023 * 4095 :=
  Nat.le_trans h.vAcc (Nat.mul_le_mul_right 4095 h.samplesTaken_le)

theorem countdown_sub_one_toNat {n : Countdown} (h : 1 ≤ n.toNat) : (n - 1).toNat + 1 = n.toNat := by
  rw [BitVec.toNat_sub_of_le (by simpa [BitVec.le_def] using h)]
  simpa using Nat.sub_add_cancel h

theorem two_le_countdown {n : Countdown} (h : 1 ≤ n.toNat) (hne : n ≠ 1) : 2 ≤ n.toNat := by
  have : n.toNat ≠ 1 := fun h1 => hne (BitVec.eq_of_toNat_eq h1)
  omega

theorem State.WindowInv.samplesTaken_tick {s : State} (h : s.WindowInv) (v c : Sample) :
    (s.accumulate v c).countDown.samplesTaken = s.samplesTaken + 1 := by
  have hcd := countdown_sub_one_toNat h.countdown.1
  have hle := h.countdown.2
  simp only [State.samplesTaken, State.countDown_countdown, State.accumulate_countdown]
  omega

/-- A TICK inside a window keeps its invariant: one more sample taken, one more added. -/
theorem State.WindowInv.tick {s : State} (h : s.WindowInv) (v c : Sample) (hne : s.countdown ≠ 1) :
    (s.accumulate v c).countDown.WindowInv := by
  have hcd := countdown_sub_one_toNat h.countdown.1
  have htwo := two_le_countdown h.countdown.1 hne
  have hle := h.countdown.2
  refine ⟨?_, ?_, ?_⟩
  · simp only [State.countDown_countdown, State.accumulate_countdown]
    omega
  · rw [h.samplesTaken_tick, Nat.succ_mul, State.countDown_iAcc, State.accumulate_iAcc, add_sample_toNat c h.iAcc_le]
    exact Nat.add_le_add h.iAcc (sample_toNat_le c)
  · rw [h.samplesTaken_tick, Nat.succ_mul, State.countDown_vAcc, State.accumulate_vAcc, add_sample_toNat v h.vAcc_le]
    exact Nat.add_le_add h.vAcc (sample_toNat_le v)

/-- Settles O26: the bounds of the invariant leave room for one more sample. -/
theorem tickSumsAreExact : Obligations.TickSumsAreExact := by
  intro v c s hinv
  have hw := hinv.window
  have hv := hw.vAcc_le
  have hi := hw.iAcc_le
  have hv' := sample_toNat_le v
  have hc' := sample_toNat_le c
  have hsv := add_sample_toNat v hv
  have hsi := add_sample_toNat c hi
  refine ⟨by omega, by omega, hsv, hsi, fun hne => ?_, fun hone => ?_⟩
  · have hcd := countdown_sub_one_toNat hw.countdown.1
    have htwo := two_le_countdown hw.countdown.1 hne
    exact ⟨_, exec_tick_inside v c hne, hsv, hsi, hcd, (show 1 ≤ (s.countdown - 1).toNat by omega)⟩
  · have havgV := average_toNat (acc := s.vAcc + v.setWidth 22) (by omega)
    have havgI := average_toNat (acc := s.iAcc + c.setWidth 22) (by omega)
    refine ⟨_, exec_tick_closing v c hone, ?_, ?_, by simp, by simp, by simp⟩
    · simp [havgV, hsv]
    · simp [havgI, hsi]

/-! ### Runs -/

/-- A run goes on where the run before it ended. -/
theorem execAll_append {xs ys : List Instr} {s t : State} (h : execAll xs s = .next t) :
    execAll (xs ++ ys) s = execAll ys t := by
  induction xs generalizing s with
  | nil =>
    cases h
    rfl
  | cons x xs ih =>
    obtain ⟨u, hu⟩ := exec_completes x s
    simp only [execAll, List.cons_append, hu] at h ⊢
    exact ih h

theorem execAll_cons {x : Instr} {xs : List Instr} {s t : State} (h : exec x s = .next t) :
    execAll (x :: xs) s = execAll xs t := by
  simp only [execAll, h]

@[simp] theorem voltageSum_cons (p : Sample × Sample) (ps : List (Sample × Sample)) :
    voltageSum (p :: ps) = p.1.toNat + voltageSum ps := by simp [voltageSum]

@[simp] theorem currentSum_cons (p : Sample × Sample) (ps : List (Sample × Sample)) :
    currentSum (p :: ps) = p.2.toNat + currentSum ps := by simp [currentSum]

/-- A run of TICKs that leaves the window open adds its samples exactly and counts them. -/
theorem execAll_tickList_inside (samples : List (Sample × Sample)) {s : State} (hw : s.WindowInv)
    (hlen : samples.length < s.countdown.toNat) :
    ∃ vAcc iAcc countdown,
      execAll (tickList samples) s = .next { s with vAcc := vAcc, iAcc := iAcc, countdown := countdown } ∧
      vAcc.toNat = s.vAcc.toNat + voltageSum samples ∧ iAcc.toNat = s.iAcc.toNat + currentSum samples ∧
      countdown.toNat + samples.length = s.countdown.toNat := by
  induction samples generalizing s with
  | nil => exact ⟨s.vAcc, s.iAcc, s.countdown, rfl, rfl, rfl, rfl⟩
  | cons p ps ih =>
    obtain ⟨v, c⟩ := p
    have hcd := countdown_sub_one_toNat hw.countdown.1
    have hne : s.countdown ≠ 1 := by
      intro h
      simp [h] at hlen
    obtain ⟨vAcc, iAcc, countdown, hrun, hvs, his, hcount⟩ := ih (hw.tick v c hne) (by
      simp only [List.length_cons, State.countDown_countdown, State.accumulate_countdown] at hlen ⊢
      omega)
    simp only [State.countDown_vAcc, State.countDown_iAcc, State.countDown_countdown, State.accumulate_vAcc,
      State.accumulate_iAcc, State.accumulate_countdown, add_sample_toNat v hw.vAcc_le,
      add_sample_toNat c hw.iAcc_le] at hvs his hcount
    refine ⟨vAcc, iAcc, countdown, (execAll_cons (exec_tick_inside v c hne)).trans hrun, ?_, ?_, ?_⟩
    · rw [hvs, voltageSum_cons, Nat.add_assoc]
    · rw [his, currentSum_cons, Nat.add_assoc]
    · simp only [List.length_cons]
      omega

/-- The same from a fresh window, with room for 1023 samples. -/
theorem execAll_tickList_fresh {samples : List (Sample × Sample)} {s : State} (hc : s.countdown = 1024)
    (hv : s.vAcc = 0) (hi : s.iAcc = 0) (hlen : samples.length < 1024) :
    ∃ vAcc iAcc countdown,
      execAll (tickList samples) s = .next { s with vAcc := vAcc, iAcc := iAcc, countdown := countdown } ∧
      vAcc.toNat = voltageSum samples ∧ iAcc.toNat = currentSum samples ∧
      countdown.toNat + samples.length = 1024 := by
  have hroom : samples.length < s.countdown.toNat := by simpa [hc] using hlen
  simpa [hc, hv, hi] using execAll_tickList_inside samples (State.windowInv_of_fresh hc hi hv) hroom

/-- Settles O30: a run of TICKs short of the window's end, from empty accumulators. -/
theorem openWindowHoldsTheSumOfItsSamples : Obligations.OpenWindowHoldsTheSumOfItsSamples := by
  intro s samples hc hv hi hlen
  obtain ⟨vAcc, iAcc, countdown, hrun, hvs, his, hcount⟩ := execAll_tickList_fresh hc hv hi hlen
  exact ⟨_, hrun, hvs, his, hcount, rfl⟩

theorem voltageSum_append_singleton (ps : List (Sample × Sample)) (p : Sample × Sample) :
    voltageSum (ps ++ [p]) = voltageSum ps + p.1.toNat := by simp [voltageSum]

theorem currentSum_append_singleton (ps : List (Sample × Sample)) (p : Sample × Sample) :
    currentSum (ps ++ [p]) = currentSum ps + p.2.toNat := by simp [currentSum]

theorem voltageSum_le (ps : List (Sample × Sample)) : voltageSum ps ≤ ps.length * 4095 := by
  induction ps with
  | nil => exact Nat.le_refl 0
  | cons p ps ih =>
    have hp := sample_toNat_le p.1
    rw [voltageSum_cons, List.length_cons]
    omega

theorem currentSum_le (ps : List (Sample × Sample)) : currentSum ps ≤ ps.length * 4095 := by
  induction ps with
  | nil => exact Nat.le_refl 0
  | cons p ps ih =>
    have hp := sample_toNat_le p.2
    rw [currentSum_cons, List.length_cons]
    omega

/-- Settles O31: 1023 TICKs leave the window open and the last one closes it, on the sums of all. -/
theorem fullWindowAveragesItsSamples : Obligations.FullWindowAveragesItsSamples := by
  intro s samples hc hv hi hlen
  obtain rfl | ⟨before, last, rfl⟩ := List.eq_nil_or_concat samples
  · cases hlen
  rw [List.concat_eq_append] at hlen ⊢
  have hbefore : before.length = 1023 := by simpa using hlen
  obtain ⟨vAcc, iAcc, countdown, hrun, hvs, his, hcount⟩ :=
    execAll_tickList_fresh (samples := before) hc hv hi (by omega)
  have hone : countdown = 1 := BitVec.eq_of_toNat_eq (show countdown.toNat = 1 by omega)
  subst hone
  have hvle := voltageSum_le before
  have hile := currentSum_le before
  have hsv := add_sample_toNat (acc := vAcc) last.1 (by omega)
  have hsi := add_sample_toNat (acc := iAcc) last.2 (by omega)
  have hlv := sample_toNat_le last.1
  have hli := sample_toNat_le last.2
  have havgV := average_toNat (acc := vAcc + last.1.setWidth 22) (by omega)
  have havgI := average_toNat (acc := iAcc + last.2.setWidth 22) (by omega)
  have hclose := exec_tick_closing (s := { s with vAcc := vAcc, iAcc := iAcc, countdown := 1 }) last.1 last.2 rfl
  have hsplit : tickList (before ++ [last]) = tickList before ++ [.tick last.1 last.2] := List.map_append
  refine ⟨_, (congrArg (execAll · s) hsplit).trans ((execAll_append hrun).trans (execAll_cons hclose)), ?_, ?_, by simp,
    by simp, by simp, by simp, by simp, by simp, by simp, by simp, by simp, by simp, by simp,
    fun hstopped => ?_, fun hrunning => ?_⟩
  · simp [havgV, hsv, voltageSum_append_singleton, hvs]
  · simp [havgI, hsi, currentSum_append_singleton, his]
  · rw [State.afterClose_of_stopped _ (by simpa using hstopped)]
    simp
  · rw [State.afterClose_of_running _ (by simpa using hrunning)]
    simp

end Sys2Proof.Machine
end

section
/-! SUPPORT. Binary32 arithmetic (00_scope.md R14): that one rounding gives the nearest datum, ties to even, and an
infinity from the overflow threshold on; what NaNs and infinities give; with the obligations about the primitives. -/

namespace Sys2Proof.F32

/-! ### Rounding to a multiple -/

/-- `divRoundEven` gives a nearest multiple of 2^d, the even one of two. -/
theorem divRoundEven_nearest (n d j : Nat) :
    ((n : Int) - divRoundEven n d * 2 ^ d).natAbs ≤ ((n : Int) - j * 2 ^ d).natAbs ∧
    (((n : Int) - divRoundEven n d * 2 ^ d).natAbs = ((n : Int) - j * 2 ^ d).natAbs →
      j ≠ divRoundEven n d → divRoundEven n d % 2 = 0) := by
  have hcases := divRoundEven_cases n d
  have hn : n / 2 ^ d * 2 ^ d + n % 2 ^ d = n := Nat.div_add_mod' n (2 ^ d)
  have hr : n % 2 ^ d < 2 ^ d := Nat.mod_lt n (Nat.two_pow_pos d)
  generalize divRoundEven n d = q at *
  generalize n / 2 ^ d = Q at *
  generalize n % 2 ^ d = R at *
  have hpush (i : Nat) : (i : Int) * 2 ^ d = ((i * 2 ^ d : Nat) : Int) := by push_cast; rfl
  simp only [hpush]
  have hQ1 : (Q + 1) * 2 ^ d = Q * 2 ^ d + 2 ^ d := Nat.succ_mul ..
  have hQ2 : (Q + 2) * 2 ^ d = Q * 2 ^ d + 2 ^ d + 2 ^ d := by rw [Nat.succ_mul (Q + 1), hQ1]
  have hbelow (i : Nat) (hi : j ≤ i) : j * 2 ^ d ≤ i * 2 ^ d := Nat.mul_le_mul_right _ hi
  have habove (i : Nat) (hi : i ≤ j) : i * 2 ^ d ≤ j * 2 ^ d := Nat.mul_le_mul_right _ hi
  obtain ⟨rfl, hhalf, htie⟩ | ⟨rfl, hhalf, htie⟩ := hcases
  · rcases Nat.lt_trichotomy j q with hj | rfl | hj
    · have hstep : (j + 1) * 2 ^ d ≤ q * 2 ^ d := Nat.mul_le_mul_right _ hj
      rw [Nat.succ_mul] at hstep
      omega
    · omega
    · have := habove (q + 1) hj
      omega
  · rcases Nat.lt_trichotomy j (Q + 1) with hj | rfl | hj
    · have := hbelow Q (by omega)
      omega
    · omega
    · have := habove (Q + 2) hj
      omega

/-- A quotient under half a unit short of 2^24 rounds below it. -/
theorem divRoundEven_lt_of_two_mul_lt {n d : Nat} (h : 2 * n < (2 ^ 25 - 1) * 2 ^ d) :
    divRoundEven n d < 2 ^ 24 := by
  have hround := divRoundEven_cases n d
  have hQ : n / 2 ^ d < 2 ^ 24 := (Nat.div_lt_iff_lt_mul (Nat.two_pow_pos d)).2 (by omega)
  have hn : n / 2 ^ d * 2 ^ d + n % 2 ^ d = n := Nat.div_add_mod' n (2 ^ d)
  generalize divRoundEven n d = q at *
  generalize n / 2 ^ d = Q at *
  generalize n % 2 ^ d = R at *
  generalize 2 ^ d = p at *
  have hlast : Q = 2 ^ 24 - 1 → 2 * R < p := by
    intro hQ'
    rw [hQ'] at hn
    omega
  omega

/-- From there on a quotient does not round below 2^24: half a unit short of it rounds to the even. -/
theorem le_divRoundEven_of_le_two_mul {n d : Nat} (h : (2 ^ 25 - 1) * 2 ^ d ≤ 2 * n) :
    2 ^ 24 ≤ divRoundEven n d := by
  have hround := divRoundEven_cases n d
  have hQ : 2 ^ 24 - 1 ≤ n / 2 ^ d := (Nat.le_div_iff_mul_le (Nat.two_pow_pos d)).2 (by omega)
  have hn : n / 2 ^ d * 2 ^ d + n % 2 ^ d = n := Nat.div_add_mod' n (2 ^ d)
  generalize divRoundEven n d = q at *
  generalize n / 2 ^ d = Q at *
  generalize n % 2 ^ d = R at *
  generalize 2 ^ d = p at *
  have hlast : Q = 2 ^ 24 - 1 → p ≤ 2 * R := by
    intro hQ'
    rw [hQ'] at hn
    omega
  omega

/-! ### The overflow threshold -/

theorem overflowUnits_mul (k : Nat) : Machine.overflowUnits * 2 ^ k = (2 ^ 25 - 1) * 2 ^ (252 + k) := by
  rw [Machine.overflowUnits, Nat.mul_assoc, ← Nat.pow_add]

/-- Twice the threshold, in units of the last place of the greatest finite data. -/
theorem two_mul_overflowUnits_mul (k : Nat) :
    2 * (Machine.overflowUnits * 2 ^ k) = (2 ^ 25 - 1) * 2 ^ (253 + k) := by
  rw [overflowUnits_mul, show 253 + k = 252 + k + 1 by omega, Nat.pow_succ]
  omega

theorem overflowUnits_mul_lt (k : Nat) : Machine.overflowUnits * 2 ^ k < 2 ^ (277 + k) := by
  rw [overflowUnits_mul, show 277 + k = 25 + (252 + k) by omega, Nat.pow_add 2 25]
  exact Nat.mul_lt_mul_of_pos_right (by decide) (Nat.two_pow_pos _)

theorem le_overflowUnits_mul (k : Nat) : 2 ^ (276 + k) ≤ Machine.overflowUnits * 2 ^ k := by
  rw [overflowUnits_mul, show 276 + k = 24 + (252 + k) by omega, Nat.pow_add 2 24]
  exact Nat.mul_le_mul_right _ (by decide)

/-- Below the threshold a rounding gives up at most the bits that the greatest finite data do. -/
theorem dropped_le {n k : Nat} (h : n < Machine.overflowUnits * 2 ^ k) : dropped n k ≤ 253 + k := by
  obtain ⟨-, -, hsame | hnormal⟩ := dropped_bounds n k
  · rw [hsame]
    exact Nat.le_add_left k 253
  · have hlt := Nat.lt_trans (Nat.lt_of_le_of_lt hnormal h) (overflowUnits_mul_lt k)
    have hexp := (Nat.pow_lt_pow_iff_right (by decide)).1 hlt
    clear h hnormal hlt
    omega

/-- From the threshold on it gives up at least those. -/
theorem le_dropped {n k : Nat} (h : Machine.overflowUnits * 2 ^ k ≤ n) : 253 + k ≤ dropped n k := by
  obtain ⟨-, hbits, -⟩ := dropped_bounds n k
  have hlt := Nat.lt_of_le_of_lt (Nat.le_trans (le_overflowUnits_mul k) h) hbits
  have hexp := (Nat.pow_lt_pow_iff_right (by decide)).1 hlt
  clear h hbits hlt
  omega

/-- Below the threshold the significand does not carry out of the greatest exponent. -/
theorem significand_lt {n k : Nat} (h : n < Machine.overflowUnits * 2 ^ k) (hd : dropped n k = 253 + k) :
    divRoundEven n (dropped n k) < 2 ^ 24 := by
  apply divRoundEven_lt_of_two_mul_lt
  rw [hd, ← two_mul_overflowUnits_mul]
  exact (Nat.mul_lt_mul_left (by decide)).2 h

/-- From the threshold on it does. -/
theorem le_significand {n k : Nat} (h : Machine.overflowUnits * 2 ^ k ≤ n) (hd : dropped n k = 253 + k) :
    2 ^ 24 ≤ divRoundEven n (dropped n k) := by
  apply le_divRoundEven_of_le_two_mul
  rw [hd, ← two_mul_overflowUnits_mul]
  exact Nat.mul_le_mul_left 2 h

/-- Below the threshold the rounded pattern is finite. -/
theorem rounded_lt_infMag {n k : Nat} (h : n < Machine.overflowUnits * 2 ^ k) :
    2 ^ 23 * (dropped n k - k) + divRoundEven n (dropped n k) < infMag := by
  have hd := dropped_le h
  have hlast := significand_lt h
  obtain ⟨hq, -⟩ := significand_bounds n k
  have hinf : infMag = 255 * 2 ^ 23 := rfl
  clear h
  omega

/-- From the threshold on it is the infinity's. -/
theorem infMag_le_rounded {n k : Nat} (h : Machine.overflowUnits * 2 ^ k ≤ n) :
    infMag ≤ 2 ^ 23 * (dropped n k - k) + divRoundEven n (dropped n k) := by
  have hd := le_dropped h
  have hlast := le_significand h
  obtain ⟨-, hq⟩ := significand_bounds n k
  have hinf : infMag = 255 * 2 ^ 23 := rfl
  clear h
  omega

/-! ### The nearest datum -/

/-- A 24-bit significand with an exponent below `d` stands for less than the least one with its hidden bit at `d`. -/
theorem significand_mul_lt {f e d : Nat} (hf : f < 2 ^ 24) (he : e < d) : f * 2 ^ e < 2 ^ 23 * 2 ^ d :=
  calc f * 2 ^ e < 2 ^ 24 * 2 ^ e := Nat.mul_lt_mul_of_pos_right hf (Nat.two_pow_pos _)
    _ = 2 ^ (24 + e) := (Nat.pow_add ..).symm
    _ ≤ 2 ^ (23 + d) := Nat.pow_le_pow_right (by decide) (by omega)
    _ = 2 ^ 23 * 2 ^ d := Nat.pow_add ..

/-- Below the threshold, no magnitude pattern is nearer than the rounded one, and on a tie that one is even. -/
theorem roundMag_nearest {n k : Nat} (h : n < Machine.overflowUnits * 2 ^ k) (m : Nat) :
    ((n : Int) - magUnits (roundMag n k) * 2 ^ k).natAbs ≤ ((n : Int) - magUnits m * 2 ^ k).natAbs ∧
    (((n : Int) - magUnits (roundMag n k) * 2 ^ k).natAbs = ((n : Int) - magUnits m * 2 ^ k).natAbs →
      magUnits m ≠ magUnits (roundMag n k) → roundMag n k % 2 = 0) := by
  have hround : roundMag n k = 2 ^ 23 * (dropped n k - k) + divRoundEven n (dropped n k) :=
    Nat.min_eq_right (Nat.le_of_lt (rounded_lt_infMag h))
  obtain ⟨hk, -, hnormal⟩ := dropped_bounds n k
  have hunits := magUnits_rounded n k
  rw [← hround] at hunits
  have hparity : roundMag n k % 2 = divRoundEven n (dropped n k) % 2 := by omega
  have hnear := divRoundEven_nearest n (dropped n k)
  rw [hparity]
  generalize divRoundEven n (dropped n k) = q at *
  generalize dropped n k = d at *
  have hscale : magUnits (roundMag n k) * 2 ^ k = q * 2 ^ d := by
    rw [hunits, Nat.mul_assoc, ← Nat.pow_add, Nat.sub_add_cancel hk]
  have hscale' : (magUnits (roundMag n k) : Int) * 2 ^ k = q * 2 ^ d := by exact_mod_cast hscale
  rw [hscale']
  obtain ⟨e, f, -, hef, hf, hm⟩ := exists_exponent_significand m
  have hmk : magUnits m * 2 ^ k = f * 2 ^ (e + k) := by rw [hm, Nat.mul_assoc, ← Nat.pow_add]
  by_cases hgrid : d ≤ e + k
  · -- the other datum is a multiple of 2^d too
    have hj : magUnits m * 2 ^ k = f * 2 ^ (e + k - d) * 2 ^ d := by
      rw [hmk, Nat.mul_assoc, ← Nat.pow_add, Nat.sub_add_cancel hgrid]
    have hj' : (magUnits m : Int) * 2 ^ k = (f * 2 ^ (e + k - d) : Nat) * 2 ^ d := by exact_mod_cast hj
    rw [hj']
    refine ⟨(hnear _).1, fun heq hne => (hnear _).2 heq fun hsame => hne ?_⟩
    exact Nat.eq_of_mul_eq_mul_right (Nat.two_pow_pos k) (by rw [hj, hsame, hscale])
  · -- the other datum lies below 2^(d+23), which is a multiple of 2^d and at most n
    have hn : 2 ^ (d + 23) ≤ n := hnormal.resolve_left (by omega)
    have hbelow : magUnits m * 2 ^ k < 2 ^ 23 * 2 ^ d := hmk ▸ significand_mul_lt hf (Nat.lt_of_not_le hgrid)
    have hbelow' : (magUnits m : Int) * 2 ^ k < (2 ^ 23 : Nat) * 2 ^ d := by exact_mod_cast hbelow
    have hn' : ((2 ^ 23 : Nat) : Int) * 2 ^ d ≤ n := by
      rw [Nat.pow_add, Nat.mul_comm] at hn
      exact_mod_cast hn
    obtain ⟨hle, -⟩ := hnear (2 ^ 23)
    omega

theorem roundMag_zero (k : Nat) : roundMag 0 k = 0 := by simp [roundMag, dropped, bitLength, divRoundEven]

/-- The value of a rounding: its pattern's units with the exact value's sign, which a zero need not be given. -/
theorem value_round {num : Int} {neg : Bool} (k : Nat) (hneg : num ≠ 0 → neg = decide (num < 0)) :
    value (round neg num.natAbs k) = num.sign * magUnits (roundMag num.natAbs k) := by
  simp only [value, sign_round, units, mag_round]
  rcases Int.lt_trichotomy num 0 with h | rfl | h
  · simp [hneg (by omega), h, Int.sign_eq_neg_one_of_neg h]
  · simp [roundMag_zero]
  · simp [hneg (by omega), Int.sign_eq_one_of_pos h, Int.not_lt.2 (Int.le_of_lt h)]

/-- A rounding is as far from the exact value as their magnitudes are from each other. -/
theorem natAbs_sub_value_round {num : Int} {neg : Bool} (k : Nat) (hneg : num ≠ 0 → neg = decide (num < 0)) :
    (num - value (round neg num.natAbs k) * 2 ^ k).natAbs =
      ((num.natAbs : Int) - magUnits (roundMag num.natAbs k) * 2 ^ k).natAbs := by
  rw [value_round k hneg]
  rcases Int.lt_trichotomy num 0 with h | rfl | h
  · rw [Int.sign_eq_neg_one_of_neg h, Int.neg_one_mul, Int.neg_mul]
    omega
  · simp [roundMag_zero]
  · rw [Int.sign_eq_one_of_pos h, Int.one_mul]
    omega

theorem value_eq_or_eq_neg (a : F32) : value a = units a ∨ value a = -units a := by
  unfold value
  split
  · exact .inr rfl
  · exact .inl rfl

/-- Of two data of one magnitude only the one with the exact value's sign can be as near as their magnitude is. -/
theorem value_eq_of_units_eq_of_dist_eq {num : Int} {neg : Bool} {k : Nat} {c : F32}
    (hneg : num ≠ 0 → neg = decide (num < 0)) (hunits : units c = magUnits (roundMag num.natAbs k))
    (hdist : ((num.natAbs : Int) - units c * 2 ^ k).natAbs = (num - value c * 2 ^ k).natAbs) :
    value c = value (round neg num.natAbs k) := by
  have hpow : (0 : Int) < 2 ^ k := Int.pow_pos (by decide)
  rw [value_round k hneg, ← hunits]
  have hpos : 0 < units c → (0 : Int) < units c * 2 ^ k := fun h => Int.mul_pos (by omega) hpow
  rcases Int.lt_trichotomy num 0 with h | rfl | h
  · rw [Int.sign_eq_neg_one_of_neg h, Int.neg_one_mul]
    refine (value_eq_or_eq_neg c).elim (fun hc => ?_) id
    rw [hc] at hdist ⊢
    omega
  · have hzero : units c = 0 := by rw [hunits, Int.natAbs_zero, roundMag_zero, magUnits_zero]
    have := value_eq_or_eq_neg c
    rw [Int.sign_zero, Int.zero_mul]
    omega
  · rw [Int.sign_eq_one_of_pos h, Int.one_mul]
    refine (value_eq_or_eq_neg c).elim id fun hc => ?_
    rw [hc, Int.neg_mul] at hdist
    rw [hc]
    omega

/-- The pattern's last bit is its magnitude's. -/
theorem toNat_mod_two (a : F32) : a.toNat % 2 = mag a % 2 := by
  rw [toNat_eq]
  split <;> omega

/-- One rounding is correct: nearest, ties to even, an infinity on overflow. -/
theorem correctlyRounded_round {num : Int} {neg : Bool} (k : Nat) (hneg : num ≠ 0 → neg = decide (num < 0)) :
    Machine.correctlyRounded num k (round neg num.natAbs k) := by
  refine ⟨fun hover => ?_, fun hunder => ⟨?_, fun c _ => ?_⟩⟩
  · have hpos : 0 < Machine.overflowUnits * 2 ^ k := Nat.mul_pos (by decide) (Nat.two_pow_pos k)
    rw [round, roundMag, Nat.min_eq_left (infMag_le_rounded hover), hneg (by omega)]
  · rw [isFinite_iff, mag_round, roundMag, Nat.min_eq_right (Nat.le_of_lt (rounded_lt_infMag hunder))]
    exact rounded_lt_infMag hunder
  · obtain ⟨hle, htie⟩ := roundMag_nearest hunder (mag c)
    -- without the signs the other datum is no farther from the exact value
    have hsigns : ((num.natAbs : Int) - units c * 2 ^ k).natAbs ≤ (num - value c * 2 ^ k).natAbs := by
      have hc : ((value c * 2 ^ k).natAbs : Int) = units c * 2 ^ k := by
        rw [Int.natAbs_mul, natAbs_value, Int.natAbs_pow]
        push_cast
        rfl
      omega
    rw [natAbs_sub_value_round k hneg, toNat_mod_two, mag_round]
    refine ⟨Nat.le_trans hle hsigns, fun heq hne => htie (Nat.le_antisymm hle (heq ▸ hsigns)) fun hunits => hne ?_⟩
    exact value_eq_of_units_eq_of_dist_eq hneg hunits (Nat.le_antisymm hsigns (heq ▸ hunits ▸ Nat.le_refl _))

end Sys2Proof.F32

namespace Sys2Proof.F32

/-! ### Signs of exact sums and products -/

theorem units_zero_iff (a : F32) : units a = 0 ↔ mag a = 0 :=
  ⟨fun h => magUnits_inj (h.trans magUnits_zero.symm), fun h => by rw [units, h, magUnits_zero]⟩

theorem value_zero_iff (a : F32) : value a = 0 ↔ mag a = 0 := by
  rw [← units_zero_iff, ← natAbs_value, Int.natAbs_eq_zero]

theorem value_nonpos_of_sign {a : F32} (h : sign a = true) : value a ≤ 0 := by
  simp [value, h]

theorem value_nonneg_of_not_sign {a : F32} (h : sign a = false) : 0 ≤ value a := by
  simp [value, h]

/-- The sign a sum is given is its exact value's, if that is not zero. -/
theorem sum_sign {a b : F32} (h : value a + value b ≠ 0) :
    (decide (value a + value b < 0) || (sign a && sign b)) = decide (value a + value b < 0) := by
  have hboth : (sign a && sign b) = true → value a + value b < 0 := by
    rw [Bool.and_eq_true]
    rintro ⟨ha, hb⟩
    have := value_nonpos_of_sign ha
    have := value_nonpos_of_sign hb
    omega
  rw [Bool.eq_iff_iff, Bool.or_eq_true, decide_eq_true_iff]
  exact ⟨fun hor => hor.elim id hboth, .inl⟩

/-- The sign a product is given is its exact value's, if that is not zero. -/
theorem product_sign {a b : F32} (h : value a * value b ≠ 0) :
    (sign a != sign b) = decide (value a * value b < 0) := by
  have ha : value a ≠ 0 := fun h0 => h (by rw [h0, Int.zero_mul])
  have hb : value b ≠ 0 := fun h0 => h (by rw [h0, Int.mul_zero])
  rw [eq_comm]
  cases hsa : sign a <;> cases hsb : sign b
  · have := Int.mul_nonneg (value_nonneg_of_not_sign hsa) (value_nonneg_of_not_sign hsb)
    simpa using this
  · have ha' := value_nonneg_of_not_sign hsa
    have hb' := value_nonpos_of_sign hsb
    simpa using Int.mul_neg_of_pos_of_neg (by omega) (by omega)
  · have ha' := value_nonpos_of_sign hsa
    have hb' := value_nonneg_of_not_sign hsb
    simpa using Int.mul_neg_of_neg_of_pos (by omega) (by omega)
  · have := Int.mul_nonneg_of_nonpos_of_nonpos (value_nonpos_of_sign hsa) (value_nonpos_of_sign hsb)
    simpa using this

/-- Settles O18: a sum of finite data is one rounding of the exact sum. -/
theorem sumIsRoundedToNearestEven : Obligations.SumIsRoundedToNearestEven := by
  intro a b ha hb
  rw [add_of_isFinite ha hb]
  refine ⟨correctlyRounded_round 0 sum_sign, fun h => ?_, fun h => ?_, rfl, value_neg b⟩
  · rw [sign_round, sum_sign h]
  · simp [h]

/-- Settles O19: a product of finite data is one rounding of the exact product. -/
theorem productIsRoundedToNearestEven : Obligations.ProductIsRoundedToNearestEven := by
  intro a b ha hb
  have hunits : units a * units b = (value a * value b).natAbs := by
    rw [Int.natAbs_mul, natAbs_value, natAbs_value]
  rw [mul_of_isFinite ha hb, hunits]
  exact ⟨correctlyRounded_round 149 product_sign, sign_round ..⟩

/-- Settles O21: an integer of at most 24 bits is a datum. -/
theorem smallIntegersConvertExactly : Obligations.SmallIntegersConvertExactly :=
  fun _ h => ⟨isFinite_ofInt h, value_ofInt h⟩

/-- Settles O22: `lt` compares keys, which are in the order of the values, the infinities at their ends. -/
theorem lessThanComparesValues : Obligations.LessThanComparesValues := by
  intro a b
  refine ⟨fun h => ?_, fun ha hb => ?_, fun ha => ?_⟩
  · rcases h with h | h <;> simp [lt, h]
  · rw [Bool.eq_iff_iff, lt_iff_of_isFinite ha hb, decide_eq_true_iff]
  · obtain ⟨hlow, hhigh⟩ := key_bounds_of_isFinite ha
    have hpos : key 0x7F800000 = infMag := by decide
    have hneg : key 0xFF800000 = -(infMag : Int) := by decide
    exact ⟨lt_posInf_of_isFinite ha, lt_eq_false_of_key_le (by omega), negInf_lt_of_isFinite ha,
      lt_eq_false_of_key_le (by omega)⟩

/-! ### NaNs and infinities -/

theorem class_cases (a : F32) : isNaN a = true ∨ isInf a = true ∨ isFinite a = true := by
  rw [isNaN_iff, isInf_iff, isFinite_iff]
  omega

theorem not_isNaN_of_isInf {a : F32} (h : isInf a = true) : isNaN a = false := by
  have := (isInf_iff a).1 h
  simp [isNaN, this]

@[simp] theorem not_isNaN_pack_infMag (neg : Bool) : isNaN (pack neg infMag) = false := by
  simp [isNaN, mag_pack neg infMag_lt]

/-- A product with an infinity: invalid with a zero, else an infinity of the product's sign. -/
theorem mul_of_isInf_left {a b : F32} (ha : isInf a = true) (hb : isNaN b = false) :
    mul a b = if mag b = 0 then nan else pack (sign a != sign b) infMag := by
  have hna := not_isNaN_of_isInf ha
  have hmag : mag a ≠ 0 := by
    rw [(isInf_iff a).1 ha]
    decide
  simp [mul, hna, hb, ha, hmag]

protected theorem mul_comm (a b : F32) : mul a b = mul b a := by
  simp only [mul, Bool.or_comm (isNaN b), Bool.or_comm (isInf b), Bool.or_comm (mag b == 0), Nat.mul_comm (units b),
    bne_comm (a := sign b)]

/-- A sum that is a NaN is the canonical one. -/
theorem add_eq_nan_of_isNaN {a b : F32} (h : isNaN (add a b) = true) : add a b = nan := by
  cases hna : isNaN a with
  | true => exact add_of_isNaN (.inl hna)
  | false =>
    cases hnb : isNaN b with
    | true => exact add_of_isNaN (.inr hnb)
    | false =>
      obtain hna' | hia | hfa := class_cases a
      · cases hna.symm.trans hna'
      · rw [add_of_isInf_left hia hnb] at h ⊢
        split at h
        · rw [if_pos ‹_›]
        · cases hna.symm.trans h
      · obtain hnb' | hib | hfb := class_cases b
        · cases hnb.symm.trans hnb'
        · rw [add_of_isInf_right hfa hib] at h
          cases hnb.symm.trans h
        · rw [add_of_isFinite hfa hfb, isNaN_round] at h
          cases h

/-- A product that is a NaN is the canonical one. -/
theorem mul_eq_nan_of_isNaN {a b : F32} (h : isNaN (mul a b) = true) : mul a b = nan := by
  have hinf {a b : F32} (ha : isInf a = true) (hb : isNaN b = false) (h : isNaN (mul a b) = true) :
      mul a b = nan := by
    rw [mul_of_isInf_left ha hb] at h ⊢
    split at h
    · rw [if_pos ‹_›]
    · simp at h
  cases hna : isNaN a with
  | true => exact mul_of_isNaN (.inl hna)
  | false =>
    cases hnb : isNaN b with
    | true => exact mul_of_isNaN (.inr hnb)
    | false =>
      obtain hna' | hia | hfa := class_cases a
      · cases hna.symm.trans hna'
      · exact hinf hia hnb h
      · obtain hnb' | hib | hfb := class_cases b
        · cases hnb.symm.trans hnb'
        · rw [F32.mul_comm] at h ⊢
          exact hinf hib hna h
        · rw [mul_of_isFinite hfa hfb, isNaN_round] at h
          cases h

/-- An infinity and a finite datum sum to the infinity, on either side. -/
theorem add_infinity_of_isFinite {i a : F32} (hi : isInf i = true) (ha : isFinite a = true) :
    add i a = i ∧ add a i = i := by
  refine ⟨?_, add_of_isInf_right ha hi⟩
  rw [add_of_isInf_left hi (not_isNaN_of_isFinite ha), if_neg]
  simp [not_isInf_of_isFinite ha]

/-- Settles O20: by the classes of the operands. -/
theorem naNResultsAreCanonical : Obligations.NaNResultsAreCanonical := by
  intro a b
  refine ⟨fun h => ⟨add_of_isNaN h, add_of_isNaN (by rwa [isNaN_neg]), mul_of_isNaN h⟩, add_eq_nan_of_isNaN,
    add_eq_nan_of_isNaN, mul_eq_nan_of_isNaN, by decide, by decide, by decide, by decide, fun ha => ?_, rfl, by decide,
    by decide, fun ha hb hzero => ?_, fun ha hb => ?_⟩
  · obtain ⟨hpos, hpos'⟩ := add_infinity_of_isFinite (i := 0x7F800000) (by decide) ha
    obtain ⟨hneg, hneg'⟩ := add_infinity_of_isFinite (i := 0xFF800000) (by decide) ha
    exact ⟨hpos, hpos', hneg, hneg'⟩
  · have hmul : mul a b = nan := by
      rw [mul_of_isInf_left ha (not_isNaN_of_isFinite hb), if_pos ((value_zero_iff b).1 hzero)]
    exact ⟨hmul, (F32.mul_comm b a).trans hmul⟩
  · have hb' : isNaN b = false ∧ mag b ≠ 0 := by
      obtain hinf | ⟨hfin, hne⟩ := hb
      · refine ⟨not_isNaN_of_isInf hinf, ?_⟩
        rw [(isInf_iff b).1 hinf]
        decide
      · exact ⟨not_isNaN_of_isFinite hfin, fun h => hne ((value_zero_iff b).2 h)⟩
    have hmul : mul a b = pack (sign a != sign b) infMag := by rw [mul_of_isInf_left ha hb'.1, if_neg hb'.2]
    exact ⟨hmul, (F32.mul_comm b a).trans hmul⟩

/-- The difference of two integers is exact while it has at most 24 bits. -/
theorem sub_ofInt {m n : Int} (hm : m.natAbs < 2 ^ 24) (hn : n.natAbs < 2 ^ 24) (hpos : 0 ≤ m) :
    sub (ofInt m) (ofInt n) = ofInt (m - n) := by
  have hsum : value (ofInt m) + value (neg (ofInt n)) = (m - n) * 2 ^ 149 := by
    rw [value_neg, value_ofInt hm, value_ofInt hn]
    omega
  have hsign : sign (ofInt m) = false := by simpa [ofInt] using hpos
  have hneg : decide ((m - n) * 2 ^ 149 < 0) = decide (m - n < 0) := by
    rw [decide_eq_decide]
    omega
  rw [sub, add_of_isFinite (isFinite_ofInt hm) (by rw [isFinite_neg, isFinite_ofInt hn]), hsum, hsign, Bool.false_and,
    Bool.or_false, hneg, Int.natAbs_mul, Int.natAbs_pow, Nat.mul_comm]
  rfl

end Sys2Proof.F32
end

section
/-! SUPPORT. The control law (41_pi_controller.md R150–R156) and the invariant of 10_state.md R50: what a PI compute
leaves in range, what zero operands leave alone, and that power-on meets the invariant and every step keeps it. -/

namespace Sys2Proof.F32

/-! ### Zero operands -/

/-- A datum that is not `−0.0`, and if a NaN the canonical one, is not changed by the addition of a zero. -/
theorem add_of_value_zero {a z : F32} (hz : isFinite z = true) (hzero : value z = 0) (hne : a ≠ 0x80000000)
    (hnan : isNaN a = true → a = nan) : add a z = a ∧ add z a = a := by
  obtain hna | hinf | hfin := class_cases a
  · rw [hnan hna]
    exact ⟨add_of_isNaN (.inl (by decide)), add_of_isNaN (.inr (by decide))⟩
  · exact add_infinity_of_isFinite hinf hz
  · have hsign : (decide (value a < 0) || (sign a && sign z)) = sign a := by
      cases hs : sign a with
      | false => simpa using value_nonneg_of_not_sign hs
      | true =>
        have hle := value_nonpos_of_sign hs
        have hne0 : value a ≠ 0 := fun h0 =>
          hne (eq_of_sign_mag (hs.trans (by decide)) (((value_zero_iff a).1 h0).trans (by decide)))
        have hlt : value a < 0 := by omega
        simp [hlt]
    have hround : round (sign a) (value a).natAbs 0 = a := by rw [natAbs_value, round_units hfin]
    constructor
    · rw [add_of_isFinite hfin hz, hzero, Int.add_zero, hsign, hround]
    · rw [add_of_isFinite hz hfin, hzero, Int.zero_add, Bool.and_comm, hsign, hround]

/-- A finite datum times a zero is a zero. -/
theorem mul_of_value_zero {a z : F32} (ha : isFinite a = true) (hz : isFinite z = true) (hzero : value z = 0) :
    isFinite (mul a z) = true ∧ value (mul a z) = 0 := by
  have hunits : units z = 0 := by rw [← natAbs_value, hzero, Int.natAbs_zero]
  have hmag : mag (mul a z) = 0 := by
    rw [mul_of_isFinite ha hz, mag_round, hunits, Nat.mul_zero, roundMag_zero]
  refine ⟨?_, (value_zero_iff _).2 hmag⟩
  rw [isFinite_iff, hmag]
  decide

/-- `trunc9` gives an integer of 9 bits back. -/
theorem trunc9_ofInt {n : Nat} (h : n < 512) : trunc9 (ofInt n) = BitVec.ofNat 9 n := by
  have hval : value (ofInt n) = n * 2 ^ 149 := value_ofInt (by omega)
  have hunits : units (ofInt n) = n * 2 ^ 149 := by
    rw [← natAbs_value, hval, Int.natAbs_mul, Int.natAbs_pow]
    rfl
  rw [trunc9, hunits, Nat.mul_div_cancel _ (Nat.two_pow_pos 149)]

end Sys2Proof.F32

namespace Sys2Proof.Machine

/-! ### The control error and the clamps -/

/-- Setpoint minus feedback is an integer of 13 bits (R152). -/
theorem controlError_eq (fb sp : Sample) : controlError fb sp = F32.ofInt ((sp.toNat : Int) - fb.toNat) := by
  have := sample_toNat_le fb
  have := sample_toNat_le sp
  exact F32.sub_ofInt (by omega) (by omega) (by omega)

/-- Settles O33: the difference has fewer than 24 bits. -/
theorem controlErrorIsExact : Obligations.ControlErrorIsExact := by
  intro fb sp
  have hfb := sample_toNat_le fb
  have hsp := sample_toNat_le sp
  have hlt : ((sp.toNat : Int) - fb.toNat).natAbs < 2 ^ 24 := by omega
  rw [controlError_eq]
  exact ⟨rfl, F32.isFinite_ofInt hlt, F32.value_ofInt hlt⟩

theorem dutyFloor_le_dutyCeiling (c : Config) : F32.le (dutyFloor c) (dutyCeiling c) = true := by
  obtain ⟨hmin, hmax⟩ := c.duty_bounds_natAbs_lt
  have hle := c.dcMin_le_dcMax
  rw [dutyFloor, dutyCeiling, F32.le_iff_of_isFinite (F32.isFinite_ofInt hmin) (F32.isFinite_ofInt hmax),
    F32.value_ofInt hmin, F32.value_ofInt hmax]
  omega

/-- R156: the last step of the law clamps the duty accumulator. -/
theorem State.piCompute_dutyAccInRange (s : State) (fb sp : Sample) : (s.piCompute fb sp).dutyAccInRange :=
  F32.clamp_between _ (dutyFloor_le_dutyCeiling s.cfg)

/-- R156: the second step clamps the last error. -/
theorem State.piCompute_lastErrorInRange (s : State) (fb sp : Sample) : (s.piCompute fb sp).lastErrorInRange :=
  F32.clamp_between _ s.cfg.errMin_le_errMax

/-- Settles O34: both results are clamped between finite bounds in order. -/
theorem controllerOutputIsAlwaysInRange : Obligations.ControllerOutputIsAlwaysInRange := by
  intro fb sp s t
  obtain ⟨hmin, hmax⟩ := s.cfg.duty_bounds_natAbs_lt
  have hminf := F32.isFinite_ofInt hmin
  have hmaxf := F32.isFinite_ofInt hmax
  obtain ⟨hlo, hhi⟩ := s.piCompute_dutyAccInRange fb sp
  obtain ⟨helo, hehi⟩ := s.piCompute_lastErrorInRange fb sp
  have hfin := F32.isFinite_of_between hminf hmaxf hlo hhi
  have hefin := F32.isFinite_of_between s.cfg.errMin_isFinite s.cfg.errMax_isFinite helo hehi
  refine ⟨hfin, ?_, ?_, hefin, (F32.le_iff_of_isFinite s.cfg.errMin_isFinite hefin).1 helo,
    (F32.le_iff_of_isFinite hefin s.cfg.errMax_isFinite).1 hehi⟩
  · rw [← F32.value_ofInt hmin]
    exact (F32.le_iff_of_isFinite hminf hfin).1 hlo
  · rw [← F32.value_ofInt hmax]
    exact (F32.le_iff_of_isFinite hfin hmaxf).1 hhi

/-- Settles O35: a NaN goes through both sums, and the clamp turns it into the low bound. -/
theorem naNIntegralHoldsTheDutyAtMinimum : Obligations.NaNIntegralHoldsTheDutyAtMinimum := by
  intro fb sp s hnan
  have hinteg : (s.piCompute fb sp).errorAcc = F32.nan := F32.add_of_isNaN (.inl hnan)
  refine ⟨hinteg, ?_⟩
  have hisNaN : F32.isNaN F32.nan = true := by decide
  rw [State.piCompute_dutyAcc, hinteg, F32.add_of_isNaN (.inr hisNaN), F32.add_of_isNaN (.inr hisNaN),
    F32.clamp_of_isNaN _ _ hisNaN]
  rfl

/-- The loaded gains are finite between any two operations: they are the mode's set. -/
theorem State.Inv.gains_isFinite {s : State} (h : s.Inv) :
    F32.isFinite s.kp = true ∧ F32.isFinite s.ki = true ∧ F32.isFinite s.kd = true := by
  have hset := gainSet_isFinite s.cfg s.mode
  rwa [← h.gains] at hset

/-- A duty accumulator in range is finite. -/
theorem State.Inv.dutyAcc_isFinite {s : State} (h : s.Inv) : F32.isFinite s.dutyAcc = true := by
  obtain ⟨hmin, hmax⟩ := s.cfg.duty_bounds_natAbs_lt
  exact F32.isFinite_of_between (F32.isFinite_ofInt hmin) (F32.isFinite_ofInt hmax) h.dutyAcc.1 h.dutyAcc.2

/-- Settles O36: at zero error every term but the integral is a zero. -/
theorem dutyDriftsByTheIntegralAtZeroError : Obligations.DutyDriftsByTheIntegralAtZeroError := by
  intro x s hinv hlast hmin hmax hduty hinteg
  obtain ⟨hkp, hki, hkd⟩ := hinv.gains_isFinite
  have hzerof : F32.isFinite 0 = true := by decide
  have hzero : F32.value 0 = 0 := by decide
  have herr : controlError x x = 0 := by
    rw [controlError_eq, Int.sub_self]
    decide
  have hlast' : (s.piCompute x x).lastError = 0 := by
    rw [State.piCompute_lastError, herr]
    exact F32.clamp_of_le_of_le ((F32.le_iff_of_isFinite s.cfg.errMin_isFinite hzerof).2 (hzero ▸ hmin))
      ((F32.le_iff_of_isFinite hzerof s.cfg.errMax_isFinite).2 (hzero ▸ hmax))
  have hinteg' : (s.piCompute x x).errorAcc = s.errorAcc := by
    obtain ⟨hf, hv⟩ := F32.mul_of_value_zero hki hzerof hzero
    rw [State.piCompute_errorAcc, hlast']
    exact (F32.add_of_value_zero hf hv hinteg hinv.integral).1
  have hderiv : F32.add s.dutyAcc (F32.mul s.kd (F32.sub 0 0)) = s.dutyAcc := by
    have hsub : F32.sub 0 0 = 0 := by decide
    obtain ⟨hf, hv⟩ := F32.mul_of_value_zero hkd hzerof hzero
    have hnan (h : F32.isNaN s.dutyAcc = true) : s.dutyAcc = F32.nan := by
      cases h.symm.trans (F32.not_isNaN_of_isFinite hinv.dutyAcc_isFinite)
    rw [hsub]
    exact (F32.add_of_value_zero hf hv hduty hnan).1
  have hprop : F32.add (F32.mul 0 s.kp) s.errorAcc = s.errorAcc := by
    obtain ⟨hf, hv⟩ := F32.mul_of_value_zero hkp hzerof hzero
    rw [F32.mul_comm]
    exact (F32.add_of_value_zero hf hv hinteg hinv.integral).2
  refine ⟨?_, hinteg', hlast'⟩
  rw [State.piCompute_dutyAcc, hlast', hinteg', herr, hlast, hderiv, hprop]
  rfl

/-! ### The invariant at power-on -/

theorem dutyAllowed_ofNat_dcMin (c : Config) : dutyAllowed c (BitVec.ofNat 9 c.dcMin) := by
  rw [dutyAllowed, ofNat_dcMin_toNat]
  exact ⟨Nat.le_refl _, c.dcMin_le_dcMax⟩

theorem trunc9_dutyFloor (c : Config) : F32.trunc9 (dutyFloor c) = BitVec.ofNat 9 c.dcMin :=
  F32.trunc9_ofInt (Nat.lt_succ_of_le (Nat.le_trans c.dcMin_le_dcMax c.dcMax_le))

theorem dutyFloor_between (c : Config) :
    F32.le (dutyFloor c) (dutyFloor c) = true ∧ F32.le (dutyFloor c) (dutyCeiling c) = true :=
  have hle := dutyFloor_le_dutyCeiling c
  ⟨F32.le_refl (F32.not_isNaN_of_le_left hle), hle⟩

/-- `+0.0` is no NaN, so it meets the invariant of the integral. -/
theorem isNaN_zero_imp : F32.isNaN F32.zero = true → F32.zero = F32.nan := fun h => absurd h (by decide)

theorem powerOn_inv (c : Config) : (State.powerOn c).Inv where
  dutyAcc := dutyFloor_between c
  lastError := F32.clamp_between _ c.errMin_le_errMax
  countdown := (State.windowInv_of_fresh rfl rfl rfl).countdown
  iAcc := Nat.zero_le _
  vAcc := Nat.zero_le _
  dutyShadow := dutyAllowed_ofNat_dcMin c
  dutyActive := dutyAllowed_ofNat_dcMin c
  activeCell := rfl
  dutyCommand := (trunc9_dutyFloor c).symm
  gains := rfl
  integral := isNaN_zero_imp

/-- Settles O56: the reset values meet the invariant under every configuration, so under the implementation's. -/
theorem invariantHoldsAfterReset : Obligations.InvariantHoldsAfterReset := ⟨powerOn_inv, powerOn_inv _⟩

/-! ### The updates that keep the invariant -/

namespace State.Inv

variable {s : State}

/-- The invariant says nothing of the references, the averages, the flag, the counter, the outputs and the words. -/
theorem frame (h : s.Inv) {secFlag : Bool} {iRef vRef iAvg vAvg : Sample} {seconds : Word} {out : List Event}
    {responses : List Response} {pending : List Input} {resetPending : Bool} :
    State.Inv { s with
      secFlag := secFlag, iRef := iRef, vRef := vRef, iAvg := iAvg, vAvg := vAvg, seconds := seconds, out := out,
      responses := responses, pending := pending, resetPending := resetPending } :=
  ⟨h.dutyAcc, h.lastError, h.countdown, h.iAcc, h.vAcc, h.dutyShadow, h.dutyActive, h.activeCell, h.dutyCommand,
    h.gains, h.integral⟩

/-- A window that keeps its own part of the invariant is all that a TICK inside a window writes. -/
theorem withWindow (h : s.Inv) {vAcc iAcc : Accumulator} {countdown : Countdown}
    (hw : State.WindowInv { s with vAcc := vAcc, iAcc := iAcc, countdown := countdown }) :
    State.Inv { s with vAcc := vAcc, iAcc := iAcc, countdown := countdown } :=
  ⟨h.dutyAcc, h.lastError, hw.countdown, hw.iAcc, hw.vAcc, h.dutyShadow, h.dutyActive, h.activeCell, h.dutyCommand,
    h.gains, h.integral⟩

theorem pwmLoad (h : s.Inv) : State.Inv { s with dutyActive := s.dutyShadow } :=
  ⟨h.dutyAcc, h.lastError, h.countdown, h.iAcc, h.vAcc, h.dutyShadow, h.dutyShadow, h.activeCell, h.dutyCommand,
    h.gains, h.integral⟩

/-- A switched mode comes with its gain set and a cleared integral (R182, R184). -/
theorem switchMode (h : s.Inv) (m : Mode) : (s.switchMode m).Inv :=
  ⟨h.dutyAcc, h.lastError, h.countdown, h.iAcc, h.vAcc, h.dutyShadow, h.dutyActive, h.activeCell, h.dutyCommand, rfl,
    isNaN_zero_imp⟩

theorem enterMode (h : s.Inv) (m : Mode) : (s.enterMode m).Inv := by
  by_cases hm : s.mode = m
  · rwa [s.enterMode_same hm]
  · rw [s.enterMode_other hm]
    exact h.switchMode m

theorem modeEval (h : s.Inv) : s.modeEval.Inv := by
  obtain ⟨-, -, hcross⟩ | ⟨-, hsame⟩ := s.modeEval_cases
  · rw [hcross]
    exact h.switchMode .cv
  · rwa [hsame]

/-- The duty the law leaves is in range, and the code written is its integer part (R150, R156, 00_scope.md R16). -/
theorem piCompute_dutyWrite (h : s.Inv) (fb sp : Sample) :
    ((s.piCompute fb sp).dutyWrite (F32.trunc9 (s.piCompute fb sp).dutyAcc)).Inv := by
  have hduty := s.piCompute_dutyAccInRange fb sp
  obtain ⟨-, -, hcode⟩ := truncationIsTheIntegerPartInRange s.cfg _ hduty.1 hduty.2
  exact ⟨hduty, s.piCompute_lastErrorInRange fb sp, h.countdown, h.iAcc, h.vAcc, hcode, h.dutyActive, h.activeCell, rfl,
    h.gains, F32.add_eq_nan_of_isNaN⟩

theorem afterClose (h : s.Inv) : s.afterClose.Inv := by
  cases hrun : s.running with
  | false => rwa [s.afterClose_of_stopped hrun]
  | true =>
    rw [s.afterClose_of_running hrun]
    exact h.modeEval.piCompute_dutyWrite _ _

end State.Inv

/-! ### Every operation and every step keeps the invariant -/

/-- The state START leaves: stopped or not, everything the invariant speaks of but the last error and the active code is
set afresh (R220). -/
theorem start_keeps_inv {s t : State} (h : s.Inv) (hexec : exec .start s = .next t) : t.Inv := by
  cases (startResult s).symm.trans hexec
  exact ⟨dutyFloor_between s.cfg, h.lastError, (State.windowInv_of_fresh rfl rfl rfl).countdown, Nat.zero_le _,
    Nat.zero_le _, dutyAllowed_ofNat_dcMin s.cfg, h.dutyActive, rfl, (trunc9_dutyFloor s.cfg).symm, rfl, isNaN_zero_imp⟩

/-- The state STOP leaves: the duty at DC_MIN, and no cell relay while stopped (R221). -/
theorem stop_keeps_inv {s t : State} (h : s.Inv) (hexec : exec .stop s = .next t) : t.Inv := by
  cases (stopResult s).symm.trans hexec
  exact ⟨dutyFloor_between s.cfg, h.lastError, h.countdown, h.iAcc, h.vAcc, dutyAllowed_ofNat_dcMin s.cfg,
    h.dutyActive, rfl, (trunc9_dutyFloor s.cfg).symm, h.gains, h.integral⟩

theorem exec_keeps_inv {i : Instr} {s t : State} (h : s.Inv) (hexec : exec i s = .next t) : t.Inv := by
  obtain hinside | hclose | hload | hstart | hstop | hiref | hvref | hclr | hread := exec_cases hexec
  · obtain ⟨v, c, rfl, hne, rfl⟩ := hinside
    exact h.withWindow (h.window.tick v c hne)
  · obtain ⟨v, c, rfl, -, rfl⟩ := hclose
    have hfresh : (s.freshWindow).Inv := h.withWindow (State.windowInv_of_fresh rfl rfl rfl)
    have hclosed : (s.accumulate v c).countDown.closeWindow.Inv := hfresh.frame
    exact hclosed.afterClose
  · obtain ⟨rfl, rfl⟩ := hload
    exact h.pwmLoad
  · obtain ⟨rfl, -⟩ := hstart
    exact start_keeps_inv h hexec
  · obtain ⟨rfl, -⟩ := hstop
    exact stop_keeps_inv h hexec
  · obtain ⟨ref, rfl, rfl⟩ := hiref
    have hwritten : State.Inv { s with iRef := ref } := h.frame
    exact (hwritten.enterMode .cc).frame
  · obtain ⟨ref, rfl, rfl⟩ := hvref
    have hwritten : State.Inv { s with vRef := ref } := h.frame
    exact (hwritten.enterMode .cv).frame
  · obtain ⟨rfl, rfl⟩ := hclr
    exact h.frame
  · obtain ⟨idx, ok, data, rfl, rfl⟩ := hread
    exact h.frame

/-- Settles O57: a reset meets the invariant afresh, and taking a word off or rejecting it writes nothing the invariant
speaks of. -/
theorem everyStepKeepsTheInvariant : Obligations.EveryStepKeepsTheInvariant := by
  intro s t h hstep
  obtain ⟨-, rfl⟩ | ⟨-, -, rfl⟩ | ⟨x, rest, cause, -, -, -, rfl⟩ | ⟨x, rest, i, -, -, -, hexec⟩ := step_cases hstep
  · exact powerOn_inv s.cfg
  · exact h
  · exact h.frame
  · have htaken : State.Inv { s with pending := rest } := h.frame
    exact exec_keeps_inv htaken hexec

end Sys2Proof.Machine
end

section
/-! SUPPORT. What operations and runs of operations do to the trace, the gains, the mode and the duty
(44_start_stop.md, 42_mode_fsm.md, 45_pwm_driver.md), and which operations are idempotent (20_memory.md R78). -/

namespace Sys2Proof.Machine

/-! ### Runs -/

/-- What every operation of a run keeps, the run keeps. -/
theorem execAll_induction {keeps : State → Prop} {allowed : Instr → Prop}
    (hstep : ∀ {i s t}, allowed i → keeps s → exec i s = .next t → keeps t) {ops : List Instr} {s t : State}
    (hops : ∀ i ∈ ops, allowed i) (hs : keeps s) (hrun : execAll ops s = .next t) : keeps t := by
  induction ops generalizing s with
  | nil =>
    cases hrun
    exact hs
  | cons i ops ih =>
    obtain ⟨u, hu⟩ := exec_completes i s
    rw [execAll_cons hu] at hrun
    exact ih (fun j hj => hops j (List.mem_cons_of_mem i hj)) (hstep (hops i List.mem_cons_self) hs hu) hrun

theorem execAll_completes (ops : List Instr) (s : State) : ∃ t, execAll ops s = .next t := by
  induction ops generalizing s with
  | nil => exact ⟨s, rfl⟩
  | cons i ops ih =>
    obtain ⟨u, hu⟩ := exec_completes i s
    rw [execAll_cons hu]
    exact ih u

/-- CV survives every operation but SET_IREF and START (R186). -/
theorem mode_cv_of_exec {i : Instr} {s t : State} (hi : i ≠ .start ∧ ∀ ref, i ≠ .setIref ref) (hcv : s.mode = .cv)
    (h : exec i s = .next t) : t.mode = .cv := by
  cases hmode : t.mode with
  | cv => rfl
  | cc =>
    obtain ⟨ref, rfl⟩ | rfl := onlySetIrefOrStartLeavesCV i s t h hcv hmode
    · exact absurd rfl (hi.2 ref)
    · exact absurd rfl hi.1

/-- Settles O53: by induction over the second part of the run. -/
theorem cVLastsUntilSetIrefOrStart : Obligations.CVLastsUntilSetIrefOrStart := by
  intro before after s t u hops hbefore hcv hafter
  refine ⟨(execAll_append hbefore).trans hafter, ?_⟩
  exact execAll_induction mode_cv_of_exec (fun i hi => hops i (List.mem_append_right before hi)) hcv hafter

/-! ### After a STOP -/

/-- Stopped, with no cell relay and the duty command at DC_MIN (R221, R289). -/
structure State.StoppedAtMin (c : Config) (s : State) : Prop where
  running : s.running = false
  activeCell : s.activeCell = 0
  dutyAcc : s.dutyAcc = dutyFloor c
  dutyShadow : s.dutyShadow = BitVec.ofNat 9 c.dcMin
  cfg : s.cfg = c

theorem stoppedAtMin_of_exec_stop {s t : State} (h : exec .stop s = .next t) : t.StoppedAtMin s.cfg := by
  cases (stopResult s).symm.trans h
  exact ⟨rfl, rfl, rfl, rfl, rfl⟩

/-- Only START leaves the stopped state: while stopped a window close runs no control cycle (40_scheduler.md R127). -/
theorem stoppedAtMin_of_exec {c : Config} {i : Instr} {s t : State} (hi : i ≠ .start) (hs : s.StoppedAtMin c)
    (h : exec i s = .next t) : t.StoppedAtMin c := by
  obtain ⟨hrun, hcell, hduty, hshadow, rfl⟩ := hs
  obtain hinside | hclose | hload | hstart | hstop | hiref | hvref | hclr | hread := exec_cases h
  · obtain ⟨v, c, rfl, -, rfl⟩ := hinside
    exact ⟨hrun, hcell, hduty, hshadow, rfl⟩
  · obtain ⟨v, c, rfl, -, rfl⟩ := hclose
    rw [State.afterClose_of_stopped _ (by simpa using hrun)]
    exact ⟨hrun, hcell, hduty, hshadow, rfl⟩
  · obtain ⟨rfl, rfl⟩ := hload
    exact ⟨hrun, hcell, hduty, hshadow, rfl⟩
  · exact absurd hstart.1 hi
  · obtain ⟨rfl, -⟩ := hstop
    exact stoppedAtMin_of_exec_stop h
  · obtain ⟨ref, rfl, rfl⟩ := hiref
    constructor <;> simp [hrun, hcell, hduty, hshadow]
  · obtain ⟨ref, rfl, rfl⟩ := hvref
    constructor <;> simp [hrun, hcell, hduty, hshadow]
  · obtain ⟨rfl, rfl⟩ := hclr
    exact ⟨hrun, hcell, hduty, hshadow, rfl⟩
  · obtain ⟨idx, ok, data, rfl, rfl⟩ := hread
    exact ⟨hrun, hcell, hduty, hshadow, rfl⟩

/-- Once the code in force is DC_MIN too, it stays: a PWM_LOAD, which alone writes it, loads DC_MIN. -/
theorem dutyActive_min_of_exec {c : Config} {i : Instr} {s t : State} (hi : i ≠ .start)
    (hs : s.StoppedAtMin c ∧ s.dutyActive = BitVec.ofNat 9 c.dcMin) (h : exec i s = .next t) :
    t.StoppedAtMin c ∧ t.dutyActive = BitVec.ofNat 9 c.dcMin := by
  refine ⟨stoppedAtMin_of_exec hi hs.1 h, ?_⟩
  by_cases hload : i = .pwmLoad
  · subst hload
    cases (exec_pwmLoad s).symm.trans h
    exact hs.1.dutyShadow
  · obtain ⟨-, -, -, -, -, -, -, -, -, -, -, -, -, -, -, hactive, -⟩ := onlyMarkedOperationsWriteAField i s t h
    exact (Classical.byContradiction fun hne => hload (hactive hne)).trans hs.2

/-- Settles O47: the stopped state is kept by the whole run, and with the duty in force from its PWM_LOAD on. -/
theorem stoppedDutyStaysAtMinimum : Obligations.StoppedDutyStaysAtMinimum := by
  intro s t u ops hstop hops hrun
  have ht := stoppedAtMin_of_exec_stop hstop
  obtain ⟨hrunning, hcell, hduty, hshadow, -⟩ := execAll_induction stoppedAtMin_of_exec hops ht hrun
  refine ⟨hrunning, hcell, hduty, by rw [hshadow, ofNat_dcMin_toNat], fun hload => ?_⟩
  obtain ⟨before, after, rfl⟩ := List.append_of_mem hload
  obtain ⟨m, hbefore⟩ := execAll_completes before t
  have hm := execAll_induction stoppedAtMin_of_exec (fun i hi => hops i (List.mem_append_left _ hi)) ht hbefore
  rw [execAll_append hbefore, execAll_cons (exec_pwmLoad m)] at hrun
  have hloaded : State.StoppedAtMin s.cfg { m with dutyActive := m.dutyShadow } :=
    ⟨hm.running, hm.activeCell, hm.dutyAcc, hm.dutyShadow, hm.cfg⟩
  obtain ⟨-, hactive⟩ := execAll_induction dutyActive_min_of_exec
    (fun i hi => hops i (List.mem_append_right _ (List.mem_cons_of_mem _ hi))) ⟨hloaded, hm.dutyShadow⟩ hrun
  rw [State.pwmDuty, hactive, ofNat_dcMin_toNat]

/-! ### The trace -/

/-- What the events of one operation may say of the states before and after it (R13, R240, R243). -/
def emitsRightly (i : Instr) (s t : State) (events : List Event) : Prop :=
  t.out = s.out ++ events ∧
  (∀ v, Event.setDuty v ∈ events → v = t.dutyShadow) ∧
  (∀ which on, Event.setRelay which on ∈ events → i = .start ∧ which = .cell1 ∧ on = true ∨ i = .stop ∧ on = false) ∧
  (t.dutyShadow ≠ s.dutyShadow → Event.setDuty t.dutyShadow ∈ events)

/-- An operation that leaves the trace and the shadow has no event. -/
theorem emitsRightly_nil (i : Instr) {s t : State} (hout : t.out = s.out) (hshadow : t.dutyShadow = s.dutyShadow) :
    emitsRightly i s t [] :=
  ⟨by rw [hout, List.append_nil], nofun, nofun, fun hne => absurd hshadow hne⟩

/-- Settles O51, operation by operation: a close while running, START and STOP are the ones with events. -/
theorem traceGrowsByWhatTheOperationEmits : Obligations.TraceGrowsByWhatTheOperationEmits := by
  intro i s t h
  suffices hevents : ∃ events, emitsRightly i s t events from hevents
  obtain hinside | hclose | hload | hstart | hstop | hiref | hvref | hclr | hread := exec_cases h
  · obtain ⟨v, c, rfl, -, rfl⟩ := hinside
    exact ⟨[], emitsRightly_nil _ rfl rfl⟩
  · obtain ⟨v, c, rfl, -, rfl⟩ := hclose
    cases hrun : s.running with
    | false =>
      rw [State.afterClose_of_stopped _ (by simpa using hrun)]
      exact ⟨[], emitsRightly_nil _ rfl rfl⟩
    | true =>
      rw [State.afterClose_of_running _ (by simpa using hrun)]
      exact ⟨_, State.controlCycle_out _, by simp, by simp, by simp⟩
  · obtain ⟨rfl, rfl⟩ := hload
    exact ⟨[], emitsRightly_nil _ rfl rfl⟩
  · obtain ⟨rfl, -⟩ := hstart
    cases (startResult s).symm.trans h
    exact ⟨_, rfl, by simp, by simp, by simp⟩
  · obtain ⟨rfl, -⟩ := hstop
    cases (stopResult s).symm.trans h
    exact ⟨_, rfl, by simp, by simp, by simp⟩
  · obtain ⟨ref, rfl, rfl⟩ := hiref
    exact ⟨[], emitsRightly_nil _ (by simp) (by simp)⟩
  · obtain ⟨ref, rfl, rfl⟩ := hvref
    exact ⟨[], emitsRightly_nil _ (by simp) (by simp)⟩
  · obtain ⟨rfl, rfl⟩ := hclr
    exact ⟨[], emitsRightly_nil _ rfl rfl⟩
  · obtain ⟨idx, ok, data, rfl, rfl⟩ := hread
    exact ⟨[], emitsRightly_nil _ rfl rfl⟩

/-! ### The gains -/

/-- The gains of `t` are those of `s`, or a whole set with its mode (R37). -/
def gainsKeptOrSwapped (s t : State) : Prop :=
  (t.kp, t.ki, t.kd) = (s.kp, s.ki, s.kd) ∨
  (t.mode = .cc ∧ (t.kp, t.ki, t.kd) = (s.cfg.params.kpCC, s.cfg.params.kiCC, s.cfg.params.kdCC)) ∨
  (t.mode = .cv ∧ (t.kp, t.ki, t.kd) = (s.cfg.params.kpCV, s.cfg.params.kiCV, s.cfg.params.kdCV))

theorem State.gains_switchMode (s : State) (m : Mode) : gainsKeptOrSwapped s (s.switchMode m) := by
  cases m with
  | cc => exact .inr (.inl ⟨rfl, rfl⟩)
  | cv => exact .inr (.inr ⟨rfl, rfl⟩)

theorem State.gains_enterMode (s : State) (m : Mode) : gainsKeptOrSwapped s (s.enterMode m) := by
  by_cases hm : s.mode = m
  · exact .inl (by rw [s.enterMode_same hm])
  · rw [s.enterMode_other hm]
    exact s.gains_switchMode m

theorem State.gains_afterClose (s : State) : gainsKeptOrSwapped s s.afterClose := by
  cases hrun : s.running with
  | false => exact .inl (by rw [s.afterClose_of_stopped hrun])
  | true =>
    have heval : gainsKeptOrSwapped s s.modeEval := by
      obtain ⟨-, -, hcross⟩ | ⟨-, hsame⟩ := s.modeEval_cases
      · rw [hcross]
        exact s.gains_switchMode .cv
      · exact .inl (by rw [hsame])
    rw [s.afterClose_of_running hrun]
    exact heval

/-- Settles O54: every writer of the gains does it by a mode switch. -/
theorem gainsAreSwappedWholesale : Obligations.GainsAreSwappedWholesale := by
  intro i s t h
  obtain hinside | hclose | hload | hstart | hstop | hiref | hvref | hclr | hread := exec_cases h
  · obtain ⟨v, c, rfl, -, rfl⟩ := hinside
    exact .inl rfl
  · obtain ⟨v, c, rfl, -, rfl⟩ := hclose
    exact State.gains_afterClose (s.accumulate v c).countDown.closeWindow
  · obtain ⟨rfl, rfl⟩ := hload
    exact .inl rfl
  · obtain ⟨rfl, -⟩ := hstart
    cases (startResult s).symm.trans h
    exact .inr (.inl ⟨rfl, rfl⟩)
  · obtain ⟨rfl, -⟩ := hstop
    cases (stopResult s).symm.trans h
    exact .inl rfl
  · obtain ⟨ref, rfl, rfl⟩ := hiref
    exact State.gains_enterMode { s with iRef := ref } .cc
  · obtain ⟨ref, rfl, rfl⟩ := hvref
    exact State.gains_enterMode { s with vRef := ref } .cv
  · obtain ⟨rfl, rfl⟩ := hclr
    exact .inl rfl
  · obtain ⟨idx, ok, data, rfl, rfl⟩ := hread
    exact .inl rfl

/-! ### Idempotence -/

theorem State.with_iRef_same {s : State} {ref : Sample} (h : s.iRef = ref) : { s with iRef := ref } = s := by
  subst h
  rfl

theorem State.with_vRef_same {s : State} {ref : Sample} (h : s.vRef = ref) : { s with vRef := ref } = s := by
  subst h
  rfl

/-- A second application that changes only the trace and the responses. -/
def repeatsOnlyOutputs (t u : State) : Prop := { u with out := t.out, responses := t.responses } = t

theorem setIref_repeats {ref : Sample} {s t u : State} (ht : exec (.setIref ref) s = .next t)
    (hu : exec (.setIref ref) t = .next u) : repeatsOnlyOutputs t u ∧ u.out = t.out := by
  cases (exec_setIref ref s).symm.trans ht
  have hwritten : (({ s with iRef := ref } : State).enterMode .cc).accept.iRef = ref := by simp
  cases ((setIrefResult ref _).1 (by simp)).symm.trans hu
  exact ⟨State.with_iRef_same hwritten, rfl⟩

theorem setVref_repeats {ref : Sample} {s t u : State} (ht : exec (.setVref ref) s = .next t)
    (hu : exec (.setVref ref) t = .next u) : repeatsOnlyOutputs t u ∧ u.out = t.out := by
  cases (exec_setVref ref s).symm.trans ht
  have hwritten : (({ s with vRef := ref } : State).enterMode .cv).accept.vRef = ref := by simp
  cases ((setVrefResult ref _).1 (by simp)).symm.trans hu
  exact ⟨State.with_vRef_same hwritten, rfl⟩

/-- READ changes nothing but the responses (R203). -/
theorem exec_read_eq {idx : Byte} {s t : State} (h : exec (.read idx) s = .next t) :
    ∃ ok data, t = s.respond ok data := by
  obtain ⟨data, -, hexec⟩ | ⟨-, hexec⟩ := exec_read idx s <;> cases hexec.symm.trans h
  · exact ⟨_, _, rfl⟩
  · exact ⟨_, _, rfl⟩

/-- Settles O55: what the other operations write does not depend on what they wrote before, and a TICK counts down. -/
theorem operationsOtherThanTickAreIdempotent : Obligations.OperationsOtherThanTickAreIdempotent := by
  refine ⟨fun i s t u hi ht hu => ?_, fun v c => ?_⟩
  · suffices hrepeat : repeatsOnlyOutputs t u ∧ (i ≠ .start → i ≠ .stop → u.out = t.out) from hrepeat
    cases i with
    | tick v c => exact absurd rfl (hi v c)
    | pwmLoad =>
      cases ht
      cases hu
      exact ⟨rfl, fun _ _ => rfl⟩
    | start =>
      cases (startResult s).symm.trans ht
      cases (startResult _).symm.trans hu
      exact ⟨rfl, fun hstart => absurd rfl hstart⟩
    | stop =>
      cases (stopResult s).symm.trans ht
      cases (stopResult _).symm.trans hu
      exact ⟨rfl, fun _ hstop => absurd rfl hstop⟩
    | setIref ref => exact ⟨(setIref_repeats ht hu).1, fun _ _ => (setIref_repeats ht hu).2⟩
    | setVref ref => exact ⟨(setVref_repeats ht hu).1, fun _ _ => (setVref_repeats ht hu).2⟩
    | clrSec =>
      cases ht
      cases hu
      exact ⟨rfl, fun _ _ => rfl⟩
    | read idx =>
      obtain ⟨_, _, rfl⟩ := exec_read_eq ht
      obtain ⟨_, _, rfl⟩ := exec_read_eq hu
      exact ⟨rfl, fun _ _ => rfl⟩
  · have hfirst : (State.powerOn Config.idle).countdown ≠ 1 := by decide
    have hsecond : ((State.powerOn Config.idle).accumulate v c).countDown.countdown ≠ 1 := by
      simp [State.powerOn]
    refine ⟨State.powerOn Config.idle, _, _, exec_tick_inside v c hfirst, exec_tick_inside v c hsecond, fun hsame => ?_⟩
    have hcount := congrArg State.countdown hsame
    simp [State.powerOn] at hcount

end Sys2Proof.Machine
end

section
/-! SUPPORT. The host side (30_encoding.md R110–R112): the setpoint conversion, the bytes of a line, the offset table
and the decimal value, with their obligations. -/

namespace Sys2Proof.Machine

/-! ### The setpoint conversion (R111) -/

theorem convert_toNat (raw fs : Nat) : (convert raw fs).toNat = min 4095 ((2 * raw * 4096 + fs) / (2 * fs)) := by
  rw [convert, BitVec.toNat_ofNat]
  exact Nat.mod_eq_of_lt (Nat.lt_of_le_of_lt (Nat.min_le_left ..) (by decide))

/-- Settles O58: the conversion is the quotient rounded half up, and neither full scale has a tie. -/
theorem setpointConversionRoundsAndSaturates : Obligations.SetpointConversionRoundsAndSaturates := by
  intro raw fs hfs
  rw [convert_toNat]
  refine ⟨?_, ?_, ?_, rfl, rfl⟩
  all_goals obtain rfl | rfl := hfs
  all_goals omega

/-! ### The bytes of a line (R110) -/

theorem not_newline_of_mem {text : List Byte} (h : 0x0A ∉ text) : ∀ b ∈ text, decide (b ≠ 0x0A) = true :=
  fun _ hb => decide_eq_true fun heq => h (heq ▸ hb)

theorem takeWhile_not_newline {text : List Byte} (h : 0x0A ∉ text) : text.takeWhile (· ≠ 0x0A) = text := by
  have hall : ∀ b ∈ text, decide (b ≠ 0x0A) = true := not_newline_of_mem h
  have happend := List.takeWhile_append_of_pos (l₂ := []) hall
  rwa [List.append_nil, List.takeWhile_nil, List.append_nil] at happend

theorem lineBytes_eq {text : List Byte} (hlen : text.length ≤ 20) (h : 0x0A ∉ text) : lineBytes text = text := by
  rw [lineBytes, List.take_of_length_le hlen, takeWhile_not_newline h]

/-- A newline ends the line, whatever follows. -/
theorem lineBytes_newline {text : List Byte} (tail : List Byte) (hlen : text.length ≤ 20) (h : 0x0A ∉ text) :
    lineBytes (text ++ 0x0A :: tail) = text := by
  rw [lineBytes, List.take_append, List.take_of_length_le hlen]
  cases 20 - text.length with
  | zero => rw [List.take_zero, List.append_nil, takeWhile_not_newline h]
  | succ n =>
    rw [List.take_succ_cons, List.takeWhile_append_of_pos, List.takeWhile_cons_of_neg (by decide), List.append_nil]
    exact not_newline_of_mem h

/-- Twenty bytes are a line, whatever follows. -/
theorem lineBytes_twenty {text : List Byte} (tail : List Byte) (hlen : text.length = 20) (h : 0x0A ∉ text) :
    lineBytes (text ++ tail) = text := by
  rw [lineBytes, ← hlen, List.take_left, takeWhile_not_newline h]

/-- The bytes past the line do not matter. -/
theorem recognize_congr {xs ys : List Byte} (h : lineBytes xs = lineBytes ys) : recognize xs = recognize ys := by
  rw [recognize, recognize, h]

/-! ### The branches of the table (R110) -/

/-- The branch a line's first byte picks. -/
theorem recognize_of_head {text : List Byte} {b : Byte} (hline : lineBytes text = text) (hb : text[0]? = some b) :
    recognize text =
      if b = 0x2A then .identity
      else if b = 0x4D then measLine text
      else if b = 0x4F then outputLine text
      else if b = 0x43 then referenceLine .setIref convertCurrent .currentProtection text
      else if b = 0x56 then referenceLine .setVref convertVoltage .voltageProtection text
      else .failure := by
  rw [← List.head?_eq_getElem?] at hb
  simp only [recognize, hline, hb]

/-- A line of no branch, the empty one too, is a failure. -/
theorem recognize_of_no_branch {text : List Byte} (hline : lineBytes text = text)
    (hb : text[0]? ∉ ([some 0x2A, some 0x4D, some 0x4F, some 0x43, some 0x56] : List (Option Byte))) :
    recognize text = .failure := by
  cases hhead : text[0]? with
  | none =>
    rw [← List.head?_eq_getElem?] at hhead
    simp only [recognize, hline, hhead]
  | some b =>
    rw [recognize_of_head hline hhead]
    rw [hhead] at hb
    simp only [List.mem_cons, Option.some.injEq, List.not_mem_nil, or_false, not_or] at hb
    obtain ⟨h1, h2, h3, h4, h5⟩ := hb
    rw [if_neg h1, if_neg h2, if_neg h3, if_neg h4, if_neg h5]

theorem outputLine_of_O {text : List Byte} (h : text[7]? = some 0x4F) : outputLine text = .operation .stop := by
  simp [outputLine, h]

theorem outputLine_of_other {text : List Byte} (hA : text[7]? ≠ some 0x41) (hO : text[7]? ≠ some 0x4F) :
    outputLine text = .failure := by rw [outputLine, if_neg hA, if_neg hO]

theorem referenceLine_of_colon (op : Sample → Instr) (conv : Nat → Sample) (protection : LineResult)
    {text : List Byte} (h : text[4]? = some 0x3A) : referenceLine op conv protection text = protection := by
  simp [referenceLine, h]

theorem referenceLine_of_other (op : Sample → Instr) (conv : Nat → Sample) (protection : LineResult)
    {text : List Byte} (hspace : text[4]? ≠ some 0x20) (hcolon : text[4]? ≠ some 0x3A) :
    referenceLine op conv protection text = .failure := by rw [referenceLine, if_neg hspace, if_neg hcolon]

/-- Settles O59: the first byte picks the branch, the offset test the row of it. -/
theorem linesAreRecognizedByTheOffsetTable : Obligations.LinesAreRecognizedByTheOffsetTable := by
  intro text hlen hnl b setpoint
  have hline := lineBytes_eq hlen hnl
  have hmeas (h : b 0 = some 0x4D) : recognize text = measLine text := recognize_of_head hline h
  have hout (h : b 0 = some 0x4F) : recognize text = outputLine text := recognize_of_head hline h
  have hcur (h : b 0 = some 0x43) :
      recognize text = referenceLine .setIref convertCurrent .currentProtection text := recognize_of_head hline h
  have hvol (h : b 0 = some 0x56) :
      recognize text = referenceLine .setVref convertVoltage .voltageProtection text := recognize_of_head hline h
  refine ⟨fun h => recognize_of_head hline h, fun h hrow => (hmeas h).trans (if_pos hrow),
    fun h hrow => (hmeas h).trans (if_neg hrow), fun h hA => (hout h).trans (if_pos hA),
    fun h hO => (hout h).trans (outputLine_of_O hO), fun h hA hO => (hout h).trans (outputLine_of_other hA hO),
    fun h hspace => (hcur h).trans (if_pos hspace),
    fun h hcolon => (hcur h).trans (referenceLine_of_colon _ _ _ hcolon),
    fun h hspace hcolon => (hcur h).trans (referenceLine_of_other _ _ _ hspace hcolon),
    fun h hspace => (hvol h).trans (if_pos hspace),
    fun h hcolon => (hvol h).trans (referenceLine_of_colon _ _ _ hcolon),
    fun h hspace hcolon => (hvol h).trans (referenceLine_of_other _ _ _ hspace hcolon), recognize_of_no_branch hline,
    fun tail => recognize_congr ((lineBytes_newline tail hlen hnl).trans hline.symm),
    fun htwenty tail => recognize_congr ((lineBytes_twenty tail htwenty hnl).trans hline.symm)⟩

/-! ### The decimal value (R112) -/

theorem digitValue_of_digit {b : Byte} (h : 0x30 ≤ b.toNat ∧ b.toNat ≤ 0x39) :
    digitValue b = some (b.toNat - 0x30) := if_pos h

theorem digitValue_of_not_digit {b : Byte} (h : b.toNat < 0x30 ∨ 0x39 < b.toNat) : digitValue b = none :=
  if_neg (by omega)

/-- The number read stops at the first byte that is no digit. -/
theorem decimalFrom_of_head_not_digit {acc : Nat} {tail : List Byte}
    (h : ∀ b, tail.head? = some b → b.toNat < 0x30 ∨ 0x39 < b.toNat) : decimalFrom acc tail = acc := by
  cases tail with
  | nil => rfl
  | cons b rest => simp only [decimalFrom, digitValue_of_not_digit (h b rfl)]

/-- Up to there it is the digits' number onto what was read before. -/
theorem decimalFrom_append {digits tail : List Byte} (acc : Nat)
    (hdigits : ∀ d ∈ digits, 0x30 ≤ d.toNat ∧ d.toNat ≤ 0x39)
    (htail : ∀ b, tail.head? = some b → b.toNat < 0x30 ∨ 0x39 < b.toNat) :
    decimalFrom acc (digits ++ tail) = digits.foldl (fun n d => 10 * n + (d.toNat - 0x30)) acc := by
  induction digits generalizing acc with
  | nil => exact decimalFrom_of_head_not_digit htail
  | cons d ds ih =>
    simp only [List.cons_append, decimalFrom, digitValue_of_digit (hdigits d List.mem_cons_self), List.foldl_cons]
    exact ih _ fun e he => hdigits e (List.mem_cons_of_mem d he)

/-- Settles O60: by whether b[5] is the first of some digits. -/
theorem lineValueIsItsDecimalDigits : Obligations.LineValueIsItsDecimalDigits := by
  intro head digits tail hlen hdigits htail
  have hdrop : (head ++ digits ++ tail).drop 5 = digits ++ tail := by
    rw [List.append_assoc, ← hlen, List.drop_left]
  rw [lineValue, hdrop]
  cases digits with
  | nil =>
    cases tail with
    | nil => rfl
    | cons b rest => simp [digitValue_of_not_digit (htail b rfl)]
  | cons d ds =>
    have hvalue := decimalFrom_append 0 hdigits htail
    rw [List.cons_append] at hvalue ⊢
    simp [digitValue_of_digit (hdigits d List.mem_cons_self), hvalue]

end Sys2Proof.Machine
end
